-- ==== Sys2Proof/Word.lean ====
section
/-! DEFINITION. The word types of the µPD67/67A/68/68A/69: 4-bit cells, 8-bit port registers and pairs,
10-bit program words, 12-bit program addresses (R5, R20, R28, R50, R81). -/

namespace Sys2Proof

/-- A 4-bit cell of data memory, the accumulator, a port nibble (R5, R27, R32). -/
abbrev Nibble := BitVec 4

/-- An 8-bit port register or register pair (R28, R50). -/
abbrev Octet := BitVec 8

/-- A 10-bit word of program memory in code order, and a 10-bit timer or modulo value (R9, R40, R81). -/
abbrev Word10 := BitVec 10

/-- A program address: `PC_BITS` (11 or 12) of the 12 bits are used (R20). -/
abbrev Addr := BitVec 12

end Sys2Proof
end

