-- ==== Sys2Proof/Config.lean ====
section
/-! DEFINITION. What an implementation or a launch fixes (R4, R5, R6), and the free values: constants with
no body, so that nothing can be proved of the value drawn (93_implementation_defined.md, log 8). -/

namespace Sys2Proof

/-- `VARIANT`: the five parts of the family (R1, R4). -/
inductive Part where
  | upd67
  | upd67A
  | upd68
  | upd68A
  | upd69
deriving DecidableEq, Repr

/-- `ADDR_LAYOUT`: where the lost a8 cell of the address word sits (R6, R118). -/
inductive AddrLayout where
  /-- `a9 a7 a6 a5 a4 a8 a3 a2 a1 a0`, the spec's default. -/
  | split
  /-- `a9 a8 a7 a6 a5 a4 a3 a2 a1 a0`. -/
  | straight
deriving DecidableEq, Repr

/-- `PAGED_R0_RF`: which RAM page's R0 and RF feed DP and ASR on the µPD69 (R6, R92). -/
inductive PagedR0Rf where
  /-- The spec's default: the uses are refused while a page other than 0 is selected. -/
  | refuse
  /-- R0 and RF of the selected page. -/
  | paged
  /-- R0 and RF of page 0. -/
  | page0
deriving DecidableEq, Repr

/-- `CAP`, the one mask option (R5, R129): the 15 pF oscillator capacitor. No rule depends on it. -/
inductive CapOption where
  | useCap
  | noUseCap
deriving DecidableEq, Repr

/-- The launch parameters of a model (R6): they are arguments, and no step changes them. -/
structure Params where
  part : Part
  layout : AddrLayout
  paged : PagedR0Rf
deriving DecidableEq, Repr

/-! The free values. The argument is the index of the step that draws (the field `free` of the state);
the memory draws take the cell or the address as well. -/

/-- A after a reset that is not `State.reset` (R32, R71). Log 9. -/
opaque Config.freeA : Nat → Nibble

/-- M0 after a reset that is not `State.reset` (R43, R71). Log 9. -/
opaque Config.freeM0 : Nat → Word10

/-- M1 after a reset that is not `State.reset` (R43, R71). Log 9. -/
opaque Config.freeM1 : Nat → Word10

/-- `ASR[PC_BITS-1:8]` after an access to RF, a stack-overflow reset or a loss of RAM (R26, R231, R351).
Logs 10, 11 and 27. -/
opaque Config.freeAsrHigh : Nat → Nibble

/-- CY after `MOV M00/M01/M10/M11,A` (R252). Log 12. -/
opaque Config.freeCy : Nat → Bool

/-- F after STTS with an operand that Table 2-1 does not list (R281). Log 13. -/
opaque Config.freeF : Nat → Bool

/-- P1 bit 3 read in LED mode in the boundary cycle (R330). Log 14. -/
opaque Config.freeLed : Nat → Bool

/-- A data-memory cell after its contents were lost (R94, R231, R351): step index, then cell address.
Logs 11 and 27. -/
opaque Config.freeRam : Nat → Nat → Nibble

/-- The table word at a mounted address that the image does not define (R84). Log 6. -/
opaque Config.freeRomWord : Nat → Word10

end Sys2Proof
end

