-- ==== Sys2Proof/Machine/State.lean ====
section
/-! DEFINITION. The state of the machine as plain data (10_state.md), the state after reset (R71), and the
reasons a step can stop. INVENTORY.md lists every field with its rule and its reset value. -/

namespace Sys2Proof.Machine

/-- The levels at the input pins (R353): `true` and 1 are high. -/
structure Pins where
  /-- Bit i is pin K_Ii. -/
  ki : Nibble
  /-- Bit i is pin K_I/Oi. -/
  kio : Octet
  s0 : Bool
  s1 : Bool
  s2 : Bool
deriving DecidableEq, Repr

/-- What the supply does at an instruction boundary (R350, R351). Where V_DD falls to V_ID exactly the flag is 0 by R71
and kept by R60 and R351: the model's choice is that such a fall may be sampled as `belowPoc` or as `belowVid`
(log 27). -/
inductive Supply where
  /-- V_DD above V_POC. -/
  | normal
  /-- A dip shorter than 1 ms, or a resonator that stops before POC detects (R350, R386). -/
  | dip
  /-- V_DD at or below V_POC long enough, and not below V_ID: POC reset, RAM retained. -/
  | belowPoc
  /-- V_DD fell below V_ID, or to it: POC reset, RAM lost. -/
  | belowVid
deriving DecidableEq, Repr

/-- One sample of the environment (R97, R353): log 15. -/
structure Env where
  pins : Pins
  supply : Supply
  /-- The oscillator's wait of R345 and R352 is over; it is over anyway once no sample is left (`waitOver`). -/
  oscStable : Bool
deriving DecidableEq, Repr

/-- The operating state (R67 a), with the HALT operand a standby mode waits for (R340). -/
inductive Mode where
  | run
  | halt (d : Nibble)
  | stop (d : Nibble)
  /-- `held`: the POC circuit still holds the reset signal (R350); else the oscillator's wait alone is left
  (R352). Log 18. -/
  | resetWait (held : Bool)
deriving DecidableEq, Repr

/-- The carrier generator (R324, R67 c) and what R326 and R328 need to know of the modulo registers. -/
structure Carrier where
  /-- The 9-bit counter: carrier clocks left in the phase, less one. -/
  count : BitVec 9
  /-- The output phase. -/
  high : Bool
  /-- M0 was written since the last reset. -/
  m0Written : Bool
  /-- M1 was written since the last reset. -/
  m1Written : Bool
  /-- A rule of R328 was broken since the last reset: the REM waveform is unspecified. -/
  unspecified : Bool
deriving DecidableEq, Repr

/-- The two memories (R80), as lists of address and contents in one canonical form (`Memory.wf`): log 7. -/
structure Memory where
  /-- Program memory by step address: an unlisted word has no value (R84, log 6). -/
  rom : List (Nat × Word10)
  /-- Data memory by cell number `page || m || n`: an unlisted cell reads 0 (log 5). -/
  ram : List (Nat × Nibble)
deriving DecidableEq, Repr

/-- The machine's state. -/
structure State where
  /-- The launch parameters (R6): no step changes them. -/
  params : Params
  /-- Program counter (R20). -/
  pc : Addr
  /-- Stack pointer (R23). -/
  sp : BitVec 1
  /-- `ASR[PC_BITS-1:8]`; `ASR[7:0]` is the pair RF (R25). -/
  asrHigh : Nibble
  /-- Accumulator (R32). -/
  a : Nibble
  /-- Status flag F (R34). -/
  f : Bool
  /-- Carry flag CY (R35). -/
  cy : Bool
  /-- Timer register T: t9 and the 9-bit down counter (R40). -/
  t : Word10
  /-- TRUN, "timer operating" (R322). -/
  trun : Bool
  /-- Modulo register M0; bit 9 is fixed to 0 (R42). -/
  m0 : Word10
  /-- Modulo register M1; bit 9 is CARY (R41). -/
  m1 : Word10
  /-- Carrier generator (R324). -/
  carrier : Carrier
  /-- P0LATCH (R51). -/
  p0Latch : Octet
  /-- P3, control register 0 (R59). -/
  p3 : Octet
  /-- P4, control register 1 (R63). -/
  p4 : Octet
  /-- Program memory and data memory. -/
  mem : Memory
  /-- MODE (R67 a). -/
  mode : Mode
  /-- STOP mode was released and no instruction has run since (R280). -/
  afterStop : Bool
  /-- The environment as last sampled (R353). -/
  env : Env
  /-- The samples to come, one per step; when none is left the last one stays (log 15). -/
  inputs : List Env
  /-- The index of the free values this step draws (log 8). -/
  free : Nat
deriving DecidableEq, Repr

/-- The five causes of the system reset (R302). The hardware records none of them. -/
inductive ResetCause where
  | poc
  | haltIllegal
  | rlzZero
  | spOverflow
  | spUnderflow
deriving DecidableEq, Repr

/-- Why the machine stops with a fault. -/
inductive Fault where
  /-- Raised by the fetch of any word of an instruction from an address outside the mounted program memory
  (R83). Safe: the chip goes on somewhere, the model says nothing of it. -/
  | fetchOutsideMounted
  /-- Raised by the fetch of a mounted word that the image does not define (R84). Safe. -/
  | fetchUndefinedWord
deriving DecidableEq, Repr

/-- Why a step is refused. -/
inductive Refusal where
  /-- Raised by `exec` alone, for an instruction without a meaning. No arm of this model raises it. Safe. -/
  | notModelled (mnemonic : String)
  /-- Raised by the step when the first word is in no row of the opcode table (R125 a), and by the meaning of
  the ill-formed `MOV R0,@R0`. Safe. -/
  | undefinedInstruction
  /-- Raised by the step when a CALL first word is not followed by a JMP first word (R120, R125 b). Safe. -/
  | callPrefix
  /-- Raised by the step when an operand word has a bit set where the source prints 0 (R126). Safe. -/
  | operandBits
  /-- Raised by a jump or CALL whose page the part does not have (R125 c, R211). Safe. -/
  | pageNotOnPart
  /-- Raised by a table read with DP outside the mounted program memory (R89). Safe. -/
  | tableOutsideMounted
  /-- Raised under `PAGED_R0_RF = refuse` by a table read, CALL, RET or an access to R00, R10, R0F, R1F while
  a RAM page other than 0 is selected (R92). Safe. -/
  | pagedR0Rf
  /-- Raised by the step when the first instruction after a STOP mode release is not NOP (R280). Safe. -/
  | notNopAfterStop
  /-- Raised by the step in which the supply has risen and the POC reset is released, with all four K_I pins high
  (R352, R374). Safe. -/
  | kiHighAtPocRelease
  /-- Raised by the step on a supply dip the POC circuit cannot detect (R350, R386). Safe. -/
  | supplyMalfunction
deriving DecidableEq, Repr

/-- The outcome of an instruction or a step. -/
abbrev Out := Host.Outcome State Fault Refusal

/-- The carrier generator after a reset: REM low (R71). -/
def Carrier.idle : Carrier :=
  { count := 0, high := false, m0Written := false, m1Written := false, unspecified := false }

/-- The machine right after a power-on reset (R71): the values of the reset table; A, M0, M1, the upper ASR
bits and the data memory but R0 have none there and are named by logs 4 and 5; the part by log 1. -/
def State.reset : State where
  params := { part := .upd69, layout := .split, paged := .refuse }
  pc := 0x000
  sp := 0
  asrHigh := 0
  a := 0
  f := false
  cy := false
  t := 0
  trun := false
  m0 := 0
  m1 := 0
  carrier := Carrier.idle
  p0Latch := 0xFF
  p3 := 0x00
  p4 := 0x26
  mem := { rom := [], ram := [] }
  mode := .resetWait true
  afterStop := false
  env :=
    { pins := { ki := 0, kio := 0, s0 := false, s1 := false, s2 := false }
      supply := .normal
      oscStable := true }
  inputs := []
  free := 0

end Sys2Proof.Machine
end

