-- ==== Sys2Proof/Machine/Flags.lean ====
section
/-! DEFINITION. Every flag computation (R34, R35) and the one-operand functions of A that set CY. -/

namespace Sys2Proof.Machine

/-- CY of ANL and XRL: bit 3 of A before the instruction and bit 3 of the operand (R35). -/
def cyBothBit3 (a x : Nibble) : Bool := a.getLsbD 3 && x.getLsbD 3

/-- CY of RL and RLZ: bit 3 of A before the rotate (R35). -/
def cyBit3 (a : Nibble) : Bool := a.getLsbD 3

/-- CY of INC and SCAF: A was 0FH (R35). -/
def cyAllOnes (a : Nibble) : Bool := a == 0xF

/-- Rotate left by one (R151). -/
def rotateLeft (a : Nibble) : Nibble := a.extractLsb' 0 3 ++ a.extractLsb' 3 1

/-- SCAF (R282): A keeps its run of 1 bits from bit 0, every bit above the lowest 0 bit is cleared. -/
def scafValue (a : Nibble) : Nibble :=
  let b0 := a.getLsbD 0
  let b1 := b0 && a.getLsbD 1
  let b2 := b1 && a.getLsbD 2
  let b3 := b2 && a.getLsbD 3
  (BitVec.ofBool b3 ++ BitVec.ofBool b2) ++ (BitVec.ofBool b1 ++ BitVec.ofBool b0)

end Sys2Proof.Machine
end

