-- ==== Sys2Proof/Syntax.lean ====
section
/-! DEFINITION. The instructions: one constructor for each row of spec/opcode_table.json (R121). Operands are
the decoded field values: `n` a cell or pair number, `d` immediate data, `addr` the ten address bits a9 to a0. -/

namespace Sys2Proof

/-- The four port registers (R50): there is no P2 and nothing above P4. -/
inductive Port where
  | p0
  | p1
  | p3
  | p4
deriving DecidableEq, Repr

/-- Every defined instruction (R121). -/
inductive Instr where
  -- Accumulator manipulation (40_accumulator.md)
  /-- `ANL A,R0n` (R141) -/
  | anlR0n (n : Nibble)
  /-- `ANL A,R1n` (R141) -/
  | anlR1n (n : Nibble)
  /-- `ANL A,@R0H` (R142) -/
  | anlTabH
  /-- `ANL A,@R0L` (R142) -/
  | anlTabL
  /-- `ANL A,#data4` (R143) -/
  | anlData4 (d : Nibble)
  /-- `ORL A,R0n` (R144) -/
  | orlR0n (n : Nibble)
  /-- `ORL A,R1n` (R144) -/
  | orlR1n (n : Nibble)
  /-- `ORL A,@R0H` (R145) -/
  | orlTabH
  /-- `ORL A,@R0L` (R145) -/
  | orlTabL
  /-- `ORL A,#data4` (R146) -/
  | orlData4 (d : Nibble)
  /-- `XRL A,R0n` (R147) -/
  | xrlR0n (n : Nibble)
  /-- `XRL A,R1n` (R147) -/
  | xrlR1n (n : Nibble)
  /-- `XRL A,@R0H` (R148) -/
  | xrlTabH
  /-- `XRL A,@R0L` (R148) -/
  | xrlTabL
  /-- `XRL A,#data4` (R149) -/
  | xrlData4 (d : Nibble)
  /-- `INC A` (R150) -/
  | incA
  /-- `RL A` (R151) -/
  | rlA
  /-- `RLZ A` (R152) -/
  | rlzA
  -- Input/output (41_io.md)
  /-- `IN A,P00` (R171) -/
  | inP00
  /-- `IN A,P01` (R171) -/
  | inP01
  /-- `IN A,P03` (R171) -/
  | inP03
  /-- `IN A,P04` (R171) -/
  | inP04
  /-- `IN A,P10` (R171) -/
  | inP10
  /-- `IN A,P11` (R171) -/
  | inP11
  /-- `IN A,P13` (R171) -/
  | inP13
  /-- `IN A,P14` (R171) -/
  | inP14
  /-- `OUT P00,A` (R172) -/
  | outP00
  /-- `OUT P01,A` (R172) -/
  | outP01
  /-- `OUT P03,A` (R172) -/
  | outP03
  /-- `OUT P04,A` (R172) -/
  | outP04
  /-- `OUT P10,A` (R172) -/
  | outP10
  /-- `OUT P11,A` (R172) -/
  | outP11
  /-- `OUT P13,A` (R172) -/
  | outP13
  /-- `OUT P14,A` (R172) -/
  | outP14
  /-- `ANL A,P00` (R173) -/
  | anlP00
  /-- `ANL A,P01` (R173) -/
  | anlP01
  /-- `ANL A,P03` (R173) -/
  | anlP03
  /-- `ANL A,P04` (R173) -/
  | anlP04
  /-- `ANL A,P10` (R173) -/
  | anlP10
  /-- `ANL A,P11` (R173) -/
  | anlP11
  /-- `ANL A,P13` (R173) -/
  | anlP13
  /-- `ANL A,P14` (R173) -/
  | anlP14
  /-- `ORL A,P00` (R174) -/
  | orlP00
  /-- `ORL A,P01` (R174) -/
  | orlP01
  /-- `ORL A,P03` (R174) -/
  | orlP03
  /-- `ORL A,P04` (R174) -/
  | orlP04
  /-- `ORL A,P10` (R174) -/
  | orlP10
  /-- `ORL A,P11` (R174) -/
  | orlP11
  /-- `ORL A,P13` (R174) -/
  | orlP13
  /-- `ORL A,P14` (R174) -/
  | orlP14
  /-- `XRL A,P00` (R175) -/
  | xrlP00
  /-- `XRL A,P01` (R175) -/
  | xrlP01
  /-- `XRL A,P03` (R175) -/
  | xrlP03
  /-- `XRL A,P04` (R175) -/
  | xrlP04
  /-- `XRL A,P10` (R175) -/
  | xrlP10
  /-- `XRL A,P11` (R175) -/
  | xrlP11
  /-- `XRL A,P13` (R175) -/
  | xrlP13
  /-- `XRL A,P14` (R175) -/
  | xrlP14
  /-- `OUT P0,#data8` (R176) -/
  | outP0Data8 (d : Octet)
  /-- `OUT P1,#data8` (R176) -/
  | outP1Data8 (d : Octet)
  /-- `OUT P3,#data8` (R176) -/
  | outP3Data8 (d : Octet)
  /-- `OUT P4,#data8` (R176) -/
  | outP4Data8 (d : Octet)
  -- Data transfer (42_data_transfer.md)
  /-- `MOV A,R0n` (R191) -/
  | movAR0n (n : Nibble)
  /-- `MOV A,R1n` (R191) -/
  | movAR1n (n : Nibble)
  /-- `MOV A,@R0H` (R192) -/
  | movATabH
  /-- `MOV A,@R0L` (R193) -/
  | movATabL
  /-- `MOV A,#data4` (R194) -/
  | movAData4 (d : Nibble)
  /-- `MOV R0n,A` (R195) -/
  | movR0nA (n : Nibble)
  /-- `MOV R1n,A` (R195) -/
  | movR1nA (n : Nibble)
  /-- `MOV Rn,#data8` (R196) -/
  | movRnData8 (n : Nibble) (d : Octet)
  /-- `MOV Rn,@R0` (R197) -/
  | movRnTab (n : Nibble)
  -- Branch (43_branch.md)
  /-- `JMP addr (page 0)` (R212) -/
  | jmpPage0 (addr : Word10)
  /-- `JMP addr (page 1)` (R212) -/
  | jmpPage1 (addr : Word10)
  /-- `JMP addr (page 2)` (R212) -/
  | jmpPage2 (addr : Word10)
  /-- `JMP addr (page 3)` (R212) -/
  | jmpPage3 (addr : Word10)
  /-- `JC addr (page 0)` (R213) -/
  | jcPage0 (addr : Word10)
  /-- `JC addr (page 1)` (R213) -/
  | jcPage1 (addr : Word10)
  /-- `JC addr (page 2)` (R213) -/
  | jcPage2 (addr : Word10)
  /-- `JC addr (page 3)` (R213) -/
  | jcPage3 (addr : Word10)
  /-- `JNC addr (page 0)` (R214) -/
  | jncPage0 (addr : Word10)
  /-- `JNC addr (page 1)` (R214) -/
  | jncPage1 (addr : Word10)
  /-- `JNC addr (page 2)` (R214) -/
  | jncPage2 (addr : Word10)
  /-- `JNC addr (page 3)` (R214) -/
  | jncPage3 (addr : Word10)
  /-- `JF addr (page 0)` (R215) -/
  | jfPage0 (addr : Word10)
  /-- `JF addr (page 1)` (R215) -/
  | jfPage1 (addr : Word10)
  /-- `JF addr (page 2)` (R215) -/
  | jfPage2 (addr : Word10)
  /-- `JF addr (page 3)` (R215) -/
  | jfPage3 (addr : Word10)
  /-- `JNF addr (page 0)` (R216) -/
  | jnfPage0 (addr : Word10)
  /-- `JNF addr (page 1)` (R216) -/
  | jnfPage1 (addr : Word10)
  /-- `JNF addr (page 2)` (R216) -/
  | jnfPage2 (addr : Word10)
  /-- `JNF addr (page 3)` (R216) -/
  | jnfPage3 (addr : Word10)
  -- Subroutine (44_subroutine.md)
  /-- `CALL addr (page 0)` (R231) -/
  | callPage0 (addr : Word10)
  /-- `CALL addr (page 1)` (R231) -/
  | callPage1 (addr : Word10)
  /-- `CALL addr (page 2)` (R231) -/
  | callPage2 (addr : Word10)
  /-- `CALL addr (page 3)` (R231) -/
  | callPage3 (addr : Word10)
  /-- `RET` (R232) -/
  | ret
  -- Timer operation (45_timer_ops.md)
  /-- `MOV A,T0` (R241) -/
  | movAT0
  /-- `MOV A,T1` (R241) -/
  | movAT1
  /-- `MOV A,M00` (R242) -/
  | movAM00
  /-- `MOV A,M01` (R242) -/
  | movAM01
  /-- `MOV A,M10` (R243) -/
  | movAM10
  /-- `MOV A,M11` (R243) -/
  | movAM11
  /-- `MOV T0,A` (R244) -/
  | movT0A
  /-- `MOV T1,A` (R244) -/
  | movT1A
  /-- `MOV M00,A` (R245) -/
  | movM00A
  /-- `MOV M01,A` (R245) -/
  | movM01A
  /-- `MOV M10,A` (R246) -/
  | movM10A
  /-- `MOV M11,A` (R246) -/
  | movM11A
  /-- `MOV T,#data10` (R247) -/
  | movTData10 (d : Word10)
  /-- `MOV M0,#data10` (R248) -/
  | movM0Data10 (d : Word10)
  /-- `MOV M1,#data10` (R249) -/
  | movM1Data10 (d : Word10)
  /-- `MOV T,@R0` (R250) -/
  | movTTab
  /-- `MOV M0,@R0` (R251) -/
  | movM0Tab
  /-- `MOV M1,@R0` (R253) -/
  | movM1Tab
  -- Others (46_others.md)
  /-- `HALT #data4` (R276) -/
  | haltData4 (d : Nibble)
  /-- `STTS #data4` (R273) -/
  | sttsData4 (d : Nibble)
  /-- `STTS R0n` (R274) -/
  | sttsR0n (n : Nibble)
  /-- `SCAF` (R282) -/
  | scaf
  /-- `NOP` (R271) -/
  | nop
deriving DecidableEq, Repr

end Sys2Proof
end

