-- ==== Sys2Proof/WellFormed.lean ====
section
/-! DEFINITION. Which terms of `Instr` are instructions: every field value but register number 0 of
`MOV Rn,@R0`, which the source limits to n = 1 to F (R125 a, R197). -/

namespace Sys2Proof

/-- The one check the syntax does not carry in its types (R125 a). -/
def Instr.wellFormed : Instr → Bool
  | .movRnTab n => n != 0
  | _ => true

end Sys2Proof
end

