-- ==== Sys2Proof/Decode.lean ====
section
/-! DEFINITION. Decoding and encoding of program words (30_encoding.md): the fields of the first word
(R113, R114), the operand words (R115 to R118), the map of defined first words (R121, R122), what is
refused (R125, R126), the encoder, and the assembler's 16-bit form (R111). -/

namespace Sys2Proof

/-! ## Operand words -/

/-- The 8-bit value of a data8 word, and of a table word read as data (R88, R116): `w[8:5] || w[3:0]`. -/
def data8Of (w : Word10) : Octet := w.extractLsb' 5 4 ++ w.extractLsb' 0 4

/-- The data8 word `0 d7 d6 d5 d4 0 d3 d2 d1 d0` (R116). -/
def data8Word (d : Octet) : Word10 := (0#1 ++ d.extractLsb' 4 4) ++ (0#1 ++ d.extractLsb' 0 4)

/-- The 10-bit value of a data10 word (R117): `t1 t9 t8 t7 t6 t0 t5 t4 t3 t2` read as t9..t0. -/
def data10Of (w : Word10) : Word10 :=
  (w.extractLsb' 5 4 ++ w.extractLsb' 0 4) ++ (w.extractLsb' 9 1 ++ w.extractLsb' 4 1)

/-- The data10 word of a 10-bit value (R117). -/
def data10Word (d : Word10) : Word10 :=
  (d.extractLsb' 1 1 ++ d.extractLsb' 6 4) ++ (d.extractLsb' 0 1 ++ d.extractLsb' 2 4)

/-- The ten address bits a9 to a0 of an addr word (R118), by `ADDR_LAYOUT`. -/
def addrOf (lay : AddrLayout) (w : Word10) : Word10 :=
  match lay with
  | .split => (w.extractLsb' 9 1 ++ w.extractLsb' 4 1) ++ (w.extractLsb' 5 4 ++ w.extractLsb' 0 4)
  | .straight => w

/-- The addr word of ten address bits (R118). -/
def addrWord (lay : AddrLayout) (a : Word10) : Word10 :=
  match lay with
  | .split => (a.extractLsb' 9 1 ++ a.extractLsb' 4 4) ++ (a.extractLsb' 8 1 ++ a.extractLsb' 0 4)
  | .straight => a

/-- `w[9:4]` of a data4 word are printed 0 (R115, R126). -/
def data4Clear (w : Word10) : Bool := w.extractLsb' 4 6 == 0

/-- `w[9]` and `w[4]` of a data8 word are printed 0 (R116, R126). -/
def data8Clear (w : Word10) : Bool := !w.getLsbD 9 && !w.getLsbD 4

/-! ## The first word -/

/-- What the selector `sel = w[4:0]` names (R114). -/
inductive Sel where
  /-- `0nnnn`: data memory cell or pair n. -/
  | cell (n : Nibble)
  /-- `10000`: the table word at DP. -/
  | table
  /-- `10001`: data4 follows, or a jump into page 0 or 1. -/
  | imm
  /-- `10010`: RET or the CALL first word. -/
  | callRet
  /-- `10011`: an operation on A alone. -/
  | accOnly
  /-- `10100`: a jump into page 2 or 3. -/
  | page23
  /-- `10110`: M0. -/
  | mod0
  /-- `10111`: M1. -/
  | mod1
  /-- `11ppp`, p = 0, 1, 3, 4. -/
  | port (p : Port)
  /-- `11111`: T. -/
  | timer
  /-- Every other pattern: used by no instruction. -/
  | unused
deriving DecidableEq, Repr

/-- The operand selector of a first word (R114). -/
def selOf (w : Word10) : Sel :=
  if w.getLsbD 4 then
    match (w.extractLsb' 0 4).toNat with
    | 0 => .table
    | 1 => .imm
    | 2 => .callRet
    | 3 => .accOnly
    | 4 => .page23
    | 6 => .mod0
    | 7 => .mod1
    | 8 => .port .p0
    | 9 => .port .p1
    | 11 => .port .p3
    | 12 => .port .p4
    | 15 => .timer
    | _ => .unused
  else .cell (w.extractLsb' 0 4)

/-- What a first word decides (R112): the instruction itself, or what its operand word completes. -/
inductive Form where
  /-- One word. -/
  | word1 (i : Instr)
  /-- A data4 word follows (R115). -/
  | data4 (mk : Nibble → Instr)
  /-- A data8 word follows (R116). -/
  | data8 (mk : Octet → Instr)
  /-- A data10 word follows (R117). -/
  | data10 (mk : Word10 → Instr)
  /-- An addr word follows (R118). -/
  | addr (mk : Word10 → Instr)
  /-- The CALL first word: a JMP first word and an addr word follow (R120). -/
  | call

/-- The length in words (R112). -/
def formWords : Form → Nat
  | .word1 _ => 1
  | .call => 3
  | _ => 2

/-- `IN A,Pmn`: `h = 1` names the lower nibble P0n, `h = 0` the higher one P1n (R113, R170). -/
def inInstr (lower : Bool) (p : Port) : Instr :=
  match lower, p with
  | true, .p0 => .inP00
  | true, .p1 => .inP01
  | true, .p3 => .inP03
  | true, .p4 => .inP04
  | false, .p0 => .inP10
  | false, .p1 => .inP11
  | false, .p3 => .inP13
  | false, .p4 => .inP14

/-- `OUT Pmn,A`: `h = 1` names the lower nibble P0n, `h = 0` the higher one P1n (R113, R170). -/
def outInstr (lower : Bool) (p : Port) : Instr :=
  match lower, p with
  | true, .p0 => .outP00
  | true, .p1 => .outP01
  | true, .p3 => .outP03
  | true, .p4 => .outP04
  | false, .p0 => .outP10
  | false, .p1 => .outP11
  | false, .p3 => .outP13
  | false, .p4 => .outP14

/-- `ANL A,Pmn`: `h = 1` names the lower nibble P0n, `h = 0` the higher one P1n (R113, R170). -/
def anlPortInstr (lower : Bool) (p : Port) : Instr :=
  match lower, p with
  | true, .p0 => .anlP00
  | true, .p1 => .anlP01
  | true, .p3 => .anlP03
  | true, .p4 => .anlP04
  | false, .p0 => .anlP10
  | false, .p1 => .anlP11
  | false, .p3 => .anlP13
  | false, .p4 => .anlP14

/-- `ORL A,Pmn`: `h = 1` names the lower nibble P0n, `h = 0` the higher one P1n (R113, R170). -/
def orlPortInstr (lower : Bool) (p : Port) : Instr :=
  match lower, p with
  | true, .p0 => .orlP00
  | true, .p1 => .orlP01
  | true, .p3 => .orlP03
  | true, .p4 => .orlP04
  | false, .p0 => .orlP10
  | false, .p1 => .orlP11
  | false, .p3 => .orlP13
  | false, .p4 => .orlP14

/-- `XRL A,Pmn`: `h = 1` names the lower nibble P0n, `h = 0` the higher one P1n (R113, R170). -/
def xrlPortInstr (lower : Bool) (p : Port) : Instr :=
  match lower, p with
  | true, .p0 => .xrlP00
  | true, .p1 => .xrlP01
  | true, .p3 => .xrlP03
  | true, .p4 => .xrlP04
  | false, .p0 => .xrlP10
  | false, .p1 => .xrlP11
  | false, .p3 => .xrlP13
  | false, .p4 => .xrlP14

/-- `OUT Pn,#data8` (R176). -/
def outData8Instr (p : Port) : Octet → Instr :=
  match p with
  | .p0 => .outP0Data8
  | .p1 => .outP1Data8
  | .p3 => .outP3Data8
  | .p4 => .outP4Data8

/-- The map of the defined first words by `op = w[9:6]`, `h = w[5]` and `sel` (R113, R121, R122): `none`
for every word that is no first word of an instruction (R125 a). -/
def decodeFirst (w : Word10) : Option Form :=
  let h := w.getLsbD 5
  let sel := selOf w
  match (w.extractLsb' 6 4).toNat with
  | 0 => if w == 0 then some (.word1 .nop) else none
  | 1 =>
    match h, sel with
    | false, .imm => some (.data4 .haltData4)
    | true, .cell n => some (.word1 (.sttsR0n n))
    | true, .imm => some (.data4 .sttsData4)
    | _, _ => none
  | 2 =>
    match h, sel with
    | true, .cell n => some (.word1 (.movR0nA n))
    | false, .cell n => some (.word1 (.movR1nA n))
    | h, .port p => some (.word1 (outInstr h p))
    | true, .timer => some (.word1 .movT0A)
    | false, .timer => some (.word1 .movT1A)
    | true, .mod0 => some (.word1 .movM00A)
    | false, .mod0 => some (.word1 .movM01A)
    | true, .mod1 => some (.word1 .movM10A)
    | false, .mod1 => some (.word1 .movM11A)
    | _, _ => none
  | 3 =>
    match h, sel with
    | false, .cell n => some (.data8 (.movRnData8 n))
    | false, .port p => some (.data8 (outData8Instr p))
    | false, .timer => some (.data10 .movTData10)
    | false, .mod0 => some (.data10 .movM0Data10)
    | false, .mod1 => some (.data10 .movM1Data10)
    | false, .callRet => some .call
    | true, .cell n => if n == 0 then none else some (.word1 (.movRnTab n))
    | true, .timer => some (.word1 .movTTab)
    | true, .mod0 => some (.word1 .movM0Tab)
    | true, .mod1 => some (.word1 .movM1Tab)
    | _, _ => none
  | 4 =>
    match h, sel with
    | false, .imm => some (.addr .jmpPage0)
    | false, .page23 => some (.addr .jmpPage2)
    | false, .callRet => some (.word1 .ret)
    | true, .imm => some (.addr .jmpPage1)
    | true, .page23 => some (.addr .jmpPage3)
    | _, _ => none
  | 5 =>
    match h, sel with
    | false, .imm => some (.addr .jcPage1)
    | false, .page23 => some (.addr .jcPage3)
    | true, .imm => some (.addr .jncPage1)
    | true, .page23 => some (.addr .jncPage3)
    | _, _ => none
  | 6 =>
    match h, sel with
    | false, .imm => some (.addr .jcPage0)
    | false, .page23 => some (.addr .jcPage2)
    | true, .imm => some (.addr .jncPage0)
    | true, .page23 => some (.addr .jncPage2)
    | _, _ => none
  | 7 =>
    match h, sel with
    | false, .imm => some (.addr .jfPage0)
    | false, .page23 => some (.addr .jfPage2)
    | true, .imm => some (.addr .jnfPage0)
    | true, .page23 => some (.addr .jnfPage2)
    | _, _ => none
  | 8 =>
    match h, sel with
    | false, .imm => some (.addr .jfPage1)
    | false, .page23 => some (.addr .jfPage3)
    | true, .imm => some (.addr .jnfPage1)
    | true, .page23 => some (.addr .jnfPage3)
    | _, _ => none
  | 10 =>
    match h, sel with
    | true, .cell n => some (.word1 (.xrlR0n n))
    | false, .cell n => some (.word1 (.xrlR1n n))
    | true, .table => some (.word1 .xrlTabL)
    | false, .table => some (.word1 .xrlTabH)
    | true, .imm => some (.data4 .xrlData4)
    | h, .port p => some (.word1 (xrlPortInstr h p))
    | false, .accOnly => some (.word1 .incA)
    | _, _ => none
  | 13 =>
    match h, sel with
    | true, .cell n => some (.word1 (.anlR0n n))
    | false, .cell n => some (.word1 (.anlR1n n))
    | true, .table => some (.word1 .anlTabL)
    | false, .table => some (.word1 .anlTabH)
    | true, .imm => some (.data4 .anlData4)
    | h, .port p => some (.word1 (anlPortInstr h p))
    | false, .accOnly => some (.word1 .scaf)
    | _, _ => none
  | 14 =>
    match h, sel with
    | true, .cell n => some (.word1 (.orlR0n n))
    | false, .cell n => some (.word1 (.orlR1n n))
    | true, .table => some (.word1 .orlTabL)
    | false, .table => some (.word1 .orlTabH)
    | true, .imm => some (.data4 .orlData4)
    | h, .port p => some (.word1 (orlPortInstr h p))
    | false, .accOnly => some (.word1 .rlA)
    | _, _ => none
  | 15 =>
    match h, sel with
    | true, .cell n => some (.word1 (.movAR0n n))
    | false, .cell n => some (.word1 (.movAR1n n))
    | true, .table => some (.word1 .movATabL)
    | false, .table => some (.word1 .movATabH)
    | true, .imm => some (.data4 .movAData4)
    | h, .port p => some (.word1 (inInstr h p))
    | true, .timer => some (.word1 .movAT0)
    | false, .timer => some (.word1 .movAT1)
    | true, .mod0 => some (.word1 .movAM00)
    | false, .mod0 => some (.word1 .movAM01)
    | true, .mod1 => some (.word1 .movAM10)
    | false, .mod1 => some (.word1 .movAM11)
    | false, .accOnly => some (.word1 .rlzA)
    | _, _ => none
  | _ => none

/-- The page a JMP first word names, which is the second word of a CALL (R119, R120). -/
def callPage (w : Word10) : Option (Word10 → Instr) :=
  if w == 0b0100010001#10 then some .callPage0
  else if w == 0b0100110001#10 then some .callPage1
  else if w == 0b0100010100#10 then some .callPage2
  else if w == 0b0100110100#10 then some .callPage3
  else none

/-! ## Decoding -/

/-- Why words are no instruction (R125, R126). -/
inductive DecodeError where
  /-- The first word is not in the opcode table (R125 a). -/
  | undefinedWord
  /-- A CALL first word is followed by something else than a JMP first word (R120, R125 b). -/
  | callPrefix
  /-- An operand word has a bit set where the source prints 0 (R126). -/
  | operandBits
  /-- The list ends inside an instruction. -/
  | truncated
deriving DecidableEq, Repr

/-- The decoding procedure (R127) on any words: the instruction and the words after it, or the reason
there is none. -/
def decode (lay : AddrLayout) : List Word10 → Except DecodeError (Instr × List Word10)
  | [] => .error .truncated
  | w0 :: ws =>
    match decodeFirst w0, ws with
    | none, _ => .error .undefinedWord
    | some (.word1 i), _ => .ok (i, ws)
    | some _, [] => .error .truncated
    | some (.data4 mk), w1 :: rest =>
      if data4Clear w1 then .ok (mk (w1.extractLsb' 0 4), rest) else .error .operandBits
    | some (.data8 mk), w1 :: rest =>
      if data8Clear w1 then .ok (mk (data8Of w1), rest) else .error .operandBits
    | some (.data10 mk), w1 :: rest => .ok (mk (data10Of w1), rest)
    | some (.addr mk), w1 :: rest => .ok (mk (addrOf lay w1), rest)
    | some .call, w1 :: rest =>
      match callPage w1, rest with
      | none, _ => .error .callPrefix
      | some _, [] => .error .truncated
      | some mk, w2 :: rest' => .ok (mk (addrOf lay w2), rest')

/-- Word `k` of an instruction numbered as spec/opcode_table.json numbers its bits: 10 bits a word, the
first word lowest (log 28). -/
def tableWordAt (nbits w k : Nat) : Word10 := BitVec.ofNat 10 ((w % 2 ^ nbits) / 2 ^ (10 * k))

/-- The three words that `nbits` bits `w` of the opcode table stand for. -/
def tableWords (nbits w : Nat) : List Word10 :=
  [tableWordAt nbits w 0, tableWordAt nbits w 1, tableWordAt nbits w 2]

/-- The instruction the decoder reads from the table's bits, with the default `ADDR_LAYOUT`. -/
def decodeTableWord (nbits w : Nat) : Option Instr :=
  match decode .split (tableWords nbits w) with
  | .ok (i, _) => some i
  | .error _ => none

/-! ## Encoding -/

/-- The words of an instruction (R119, R120, R121). -/
def encode (lay : AddrLayout) : Instr → List Word10
  | .anlR0n n => [0b110110#6 ++ n]
  | .anlR1n n => [0b110100#6 ++ n]
  | .anlTabH => [0b1101010000#10]
  | .anlTabL => [0b1101110000#10]
  | .anlData4 d => [0b1101110001#10, 0b000000#6 ++ d]
  | .orlR0n n => [0b111010#6 ++ n]
  | .orlR1n n => [0b111000#6 ++ n]
  | .orlTabH => [0b1110010000#10]
  | .orlTabL => [0b1110110000#10]
  | .orlData4 d => [0b1110110001#10, 0b000000#6 ++ d]
  | .xrlR0n n => [0b101010#6 ++ n]
  | .xrlR1n n => [0b101000#6 ++ n]
  | .xrlTabH => [0b1010010000#10]
  | .xrlTabL => [0b1010110000#10]
  | .xrlData4 d => [0b1010110001#10, 0b000000#6 ++ d]
  | .incA => [0b1010010011#10]
  | .rlA => [0b1110010011#10]
  | .rlzA => [0b1111010011#10]
  | .inP00 => [0b1111111000#10]
  | .inP01 => [0b1111111001#10]
  | .inP03 => [0b1111111011#10]
  | .inP04 => [0b1111111100#10]
  | .inP10 => [0b1111011000#10]
  | .inP11 => [0b1111011001#10]
  | .inP13 => [0b1111011011#10]
  | .inP14 => [0b1111011100#10]
  | .outP00 => [0b0010111000#10]
  | .outP01 => [0b0010111001#10]
  | .outP03 => [0b0010111011#10]
  | .outP04 => [0b0010111100#10]
  | .outP10 => [0b0010011000#10]
  | .outP11 => [0b0010011001#10]
  | .outP13 => [0b0010011011#10]
  | .outP14 => [0b0010011100#10]
  | .anlP00 => [0b1101111000#10]
  | .anlP01 => [0b1101111001#10]
  | .anlP03 => [0b1101111011#10]
  | .anlP04 => [0b1101111100#10]
  | .anlP10 => [0b1101011000#10]
  | .anlP11 => [0b1101011001#10]
  | .anlP13 => [0b1101011011#10]
  | .anlP14 => [0b1101011100#10]
  | .orlP00 => [0b1110111000#10]
  | .orlP01 => [0b1110111001#10]
  | .orlP03 => [0b1110111011#10]
  | .orlP04 => [0b1110111100#10]
  | .orlP10 => [0b1110011000#10]
  | .orlP11 => [0b1110011001#10]
  | .orlP13 => [0b1110011011#10]
  | .orlP14 => [0b1110011100#10]
  | .xrlP00 => [0b1010111000#10]
  | .xrlP01 => [0b1010111001#10]
  | .xrlP03 => [0b1010111011#10]
  | .xrlP04 => [0b1010111100#10]
  | .xrlP10 => [0b1010011000#10]
  | .xrlP11 => [0b1010011001#10]
  | .xrlP13 => [0b1010011011#10]
  | .xrlP14 => [0b1010011100#10]
  | .outP0Data8 d => [0b0011011000#10, data8Word d]
  | .outP1Data8 d => [0b0011011001#10, data8Word d]
  | .outP3Data8 d => [0b0011011011#10, data8Word d]
  | .outP4Data8 d => [0b0011011100#10, data8Word d]
  | .movAR0n n => [0b111110#6 ++ n]
  | .movAR1n n => [0b111100#6 ++ n]
  | .movATabH => [0b1111010000#10]
  | .movATabL => [0b1111110000#10]
  | .movAData4 d => [0b1111110001#10, 0b000000#6 ++ d]
  | .movR0nA n => [0b001010#6 ++ n]
  | .movR1nA n => [0b001000#6 ++ n]
  | .movRnData8 n d => [0b001100#6 ++ n, data8Word d]
  | .movRnTab n => [0b001110#6 ++ n]
  | .jmpPage0 addr => [0b0100010001#10, addrWord lay addr]
  | .jmpPage1 addr => [0b0100110001#10, addrWord lay addr]
  | .jmpPage2 addr => [0b0100010100#10, addrWord lay addr]
  | .jmpPage3 addr => [0b0100110100#10, addrWord lay addr]
  | .jcPage0 addr => [0b0110010001#10, addrWord lay addr]
  | .jcPage1 addr => [0b0101010001#10, addrWord lay addr]
  | .jcPage2 addr => [0b0110010100#10, addrWord lay addr]
  | .jcPage3 addr => [0b0101010100#10, addrWord lay addr]
  | .jncPage0 addr => [0b0110110001#10, addrWord lay addr]
  | .jncPage1 addr => [0b0101110001#10, addrWord lay addr]
  | .jncPage2 addr => [0b0110110100#10, addrWord lay addr]
  | .jncPage3 addr => [0b0101110100#10, addrWord lay addr]
  | .jfPage0 addr => [0b0111010001#10, addrWord lay addr]
  | .jfPage1 addr => [0b1000010001#10, addrWord lay addr]
  | .jfPage2 addr => [0b0111010100#10, addrWord lay addr]
  | .jfPage3 addr => [0b1000010100#10, addrWord lay addr]
  | .jnfPage0 addr => [0b0111110001#10, addrWord lay addr]
  | .jnfPage1 addr => [0b1000110001#10, addrWord lay addr]
  | .jnfPage2 addr => [0b0111110100#10, addrWord lay addr]
  | .jnfPage3 addr => [0b1000110100#10, addrWord lay addr]
  | .callPage0 addr => [0b0011010010#10, 0b0100010001#10, addrWord lay addr]
  | .callPage1 addr => [0b0011010010#10, 0b0100110001#10, addrWord lay addr]
  | .callPage2 addr => [0b0011010010#10, 0b0100010100#10, addrWord lay addr]
  | .callPage3 addr => [0b0011010010#10, 0b0100110100#10, addrWord lay addr]
  | .ret => [0b0100010010#10]
  | .movAT0 => [0b1111111111#10]
  | .movAT1 => [0b1111011111#10]
  | .movAM00 => [0b1111110110#10]
  | .movAM01 => [0b1111010110#10]
  | .movAM10 => [0b1111110111#10]
  | .movAM11 => [0b1111010111#10]
  | .movT0A => [0b0010111111#10]
  | .movT1A => [0b0010011111#10]
  | .movM00A => [0b0010110110#10]
  | .movM01A => [0b0010010110#10]
  | .movM10A => [0b0010110111#10]
  | .movM11A => [0b0010010111#10]
  | .movTData10 d => [0b0011011111#10, data10Word d]
  | .movM0Data10 d => [0b0011010110#10, data10Word d]
  | .movM1Data10 d => [0b0011010111#10, data10Word d]
  | .movTTab => [0b0011111111#10]
  | .movM0Tab => [0b0011110110#10]
  | .movM1Tab => [0b0011110111#10]
  | .haltData4 d => [0b0001010001#10, 0b000000#6 ++ d]
  | .sttsData4 d => [0b0001110001#10, 0b000000#6 ++ d]
  | .sttsR0n n => [0b000110#6 ++ n]
  | .scaf => [0b1101010011#10]
  | .nop => [0b0000000000#10]

/-- The length of an instruction in words (R112). -/
def instrWords : Instr → Nat
  | .anlData4 _ => 2
  | .orlData4 _ => 2
  | .xrlData4 _ => 2
  | .outP0Data8 _ => 2
  | .outP1Data8 _ => 2
  | .outP3Data8 _ => 2
  | .outP4Data8 _ => 2
  | .movAData4 _ => 2
  | .movRnData8 _ _ => 2
  | .jmpPage0 _ => 2
  | .jmpPage1 _ => 2
  | .jmpPage2 _ => 2
  | .jmpPage3 _ => 2
  | .jcPage0 _ => 2
  | .jcPage1 _ => 2
  | .jcPage2 _ => 2
  | .jcPage3 _ => 2
  | .jncPage0 _ => 2
  | .jncPage1 _ => 2
  | .jncPage2 _ => 2
  | .jncPage3 _ => 2
  | .jfPage0 _ => 2
  | .jfPage1 _ => 2
  | .jfPage2 _ => 2
  | .jfPage3 _ => 2
  | .jnfPage0 _ => 2
  | .jnfPage1 _ => 2
  | .jnfPage2 _ => 2
  | .jnfPage3 _ => 2
  | .movTData10 _ => 2
  | .movM0Data10 _ => 2
  | .movM1Data10 _ => 2
  | .haltData4 _ => 2
  | .sttsData4 _ => 2
  | .callPage0 _ => 3
  | .callPage1 _ => 3
  | .callPage2 _ => 3
  | .callPage3 _ => 3
  | _ => 1

/-! ## The assembler's 16-bit form -/

/-- The assembler's 16-bit form of a program word: `111 || w[9:5] || 111 || w[4:0]` (R111). -/
def asm16 (w : Word10) : BitVec 16 := (0b111#3 ++ w.extractLsb' 5 5) ++ (0b111#3 ++ w.extractLsb' 0 5)

/-- The program word of a 16-bit form, if it is one (R111). -/
def ofAsm16 (h : BitVec 16) : Option Word10 :=
  if h.extractLsb' 13 3 == 0b111#3 && h.extractLsb' 5 3 == 0b111#3 then
    some (h.extractLsb' 8 5 ++ h.extractLsb' 0 5)
  else none

end Sys2Proof
end

