-- ==== Sys2Proof/Machine/Memory.lean ====
section
/-! DEFINITION. Reading and writing the two memories (R81, R84, R91), and the canonical form every write
keeps: addresses strictly rising, and in data memory no entry equal to what an unlisted cell reads as. -/

namespace Sys2Proof.Machine

/-- The entry at an address, if listed. -/
def cellsGet {w : Nat} : List (Nat × BitVec w) → Nat → Option (BitVec w)
  | [], _ => none
  | (k, v) :: rest, a => if k = a then some v else cellsGet rest a

/-- Sets the entry at an address, in its place. -/
def cellsPut {w : Nat} : List (Nat × BitVec w) → Nat → BitVec w → List (Nat × BitVec w)
  | [], a, v => [(a, v)]
  | (k, u) :: rest, a, v =>
    if a < k then (a, v) :: (k, u) :: rest
    else if a = k then (a, v) :: rest
    else (k, u) :: cellsPut rest a v

/-- Takes what is listed at an address away. -/
def cellsDel {w : Nat} : List (Nat × BitVec w) → Nat → List (Nat × BitVec w)
  | [], _ => []
  | (k, u) :: rest, a => if k = a then cellsDel rest a else (k, u) :: cellsDel rest a

/-- The number of data-memory cells of four pages (R91). -/
def ramCells : Nat := 128

/-- The word at a step address of program memory, if the image defines it (R84). -/
def Memory.readRom (m : Memory) (a : Nat) : Option Word10 := cellsGet m.rom a

/-- A word of the mask image (R84). No instruction does this (R85). -/
def Memory.writeRom (m : Memory) (a : Nat) (v : Word10) : Memory := { m with rom := cellsPut m.rom a v }

/-- A data-memory cell: an unlisted one reads 0 (log 5). -/
def Memory.readRam (m : Memory) (a : Nat) : Nibble := (cellsGet m.ram a).getD 0

/-- Writes a data-memory cell; writing 0 takes the entry away. -/
def Memory.writeRam (m : Memory) (a : Nat) (v : Nibble) : Memory :=
  { m with ram := if v = 0 then cellsDel m.ram a else cellsPut m.ram a v }

/-- The canonical form: addresses strictly rising and inside their space, no data-memory entry 0. -/
abbrev Memory.wf (m : Memory) : Prop :=
  m.rom.Pairwise (fun x y => x.1 < y.1) ∧ (∀ x ∈ m.rom, x.1 < 4096) ∧
  m.ram.Pairwise (fun x y => x.1 < y.1) ∧ (∀ x ∈ m.ram, x.1 < ramCells ∧ x.2 ≠ 0)

end Sys2Proof.Machine
end

