-- ==== Sys2Proof/Machine/Params.lean ====
section
/-! DEFINITION. The implementation parameters of the five parts (R4, R82), the time and frequency formulas
of R323 and R325, and the mask-option datum (R98, R129). -/

namespace Sys2Proof.Machine

/-- `ROM_STEPS`: 10-bit words of program memory (R4). -/
def romSteps : Part → Nat
  | .upd67 | .upd67A => 1002
  | .upd68 | .upd68A => 2026
  | .upd69 => 4074

/-- `PC_BITS`: the width of PC and ASR (R4). -/
def pcBits : Part → Nat
  | .upd67 | .upd67A | .upd68 | .upd68A => 11
  | .upd69 => 12

/-- `ROM_PAGES`: may a jump or CALL name this 1K page (R4, R210)? -/
def hasPage (p : Part) (page : BitVec 2) : Bool :=
  match p with
  | .upd67 | .upd67A => page == 0
  | .upd68 | .upd68A => page == 0 || page == 1
  | .upd69 => true

/-- `RAM_PAGES`: pages of 32 cells (R4). -/
def ramPages : Part → Nat
  | .upd67 | .upd67A | .upd68 | .upd68A => 1
  | .upd69 => 4

/-- `TIMER_TRIM` in periods of fx: what the timer output time is shorter by (R4). -/
def timerTrim : Part → Nat
  | .upd67 | .upd68 | .upd69 => 0
  | .upd67A | .upd68A => 4

/-- The first address of `TEST_AREA` (R4, R82): 22 steps that cannot be used. -/
def testAreaStart : Part → Nat
  | .upd67 | .upd67A | .upd68 | .upd68A => 0x7EA
  | .upd69 => 0xFEA

/-- The mounted program memory is 000H up to `ROM_STEPS` less one (R82). -/
def mounted (p : Part) (addr : Addr) : Bool := addr.toNat < romSteps p

/-- An address cut to `PC_BITS` bits (R10, R20). -/
def truncAddr (p : Part) (addr : Addr) : Addr := if pcBits p = 12 then addr else addr &&& 0x7FF

/-- The upper ASR bits cut to the `PC_BITS - 8` that exist (R25). -/
def truncAsrHigh (p : Part) (v : Nibble) : Nibble := if pcBits p = 12 then v else v &&& 0x7

/-- The writable bits of P3 (R59): DP11 to DP8, the RAM retention flag and, on the µPD69, ID1 and ID0. -/
def p3Mask (p : Part) : Octet := if ramPages p = 4 then 0xFB else 0xF8

/-- The writable bits of P4 (R63). -/
def p4Mask : Octet := 0x3F

/-- The bits of M0 that exist (R42): bit 9 is fixed to 0. -/
def m0Mask : Word10 := 0x1FF

/-- Timer output time of one set value, in periods of fx (R323): `(n + 1) × 64 - TIMER_TRIM`. -/
def timerOutputPeriods (p : Part) (n : BitVec 9) : Nat := (n.toNat + 1) * 64 - timerTrim p

/-- `t_L` and `t_H` of R325 in carrier clocks of `1 / (2 fx)`: a modulo value plus one. -/
def carrierPhaseClocks (m : BitVec 9) : Nat := m.toNat + 1

/-- The carrier period `T = t_H + t_L` in carrier clocks (R325). -/
def carrierPeriodClocks (m0 m1 : BitVec 9) : Nat := carrierPhaseClocks m0 + carrierPhaseClocks m1

/-- The PRO file address of the mask-option datum (R98, R129). -/
def maskOptionAddress : BitVec 16 := 0x2043

/-- The mask-option datum (R98, R129). -/
def maskOptionDatum : CapOption → Octet
  | .useCap => 0x01
  | .noUseCap => 0x00

end Sys2Proof.Machine
end

