-- ==== Sys2Proof/Machine/Timer.lean ====
section
/-! DEFINITION. The timer and the carrier generator (R320 to R331): the registers T, M0 and M1, what a timer
write does, the count event of a machine cycle, and the clear one-clock form of the carrier generator. -/

namespace Sys2Proof.Machine

/-- `T[8:0]`, the down counter (R40). -/
def timerCount (s : State) : BitVec 9 := s.t.extractLsb' 0 9

/-- `T[9]`, the output enable flag t9 (R40). -/
def timerEnable (s : State) : Bool := s.t.getLsbD 9

/-- The timer output is active: `T[9] = 1 and TRUN = 1` (R326, R327). -/
def outputActive (s : State) : Bool := timerEnable s && s.trun

/-- M0 as read: bit 9 is fixed to 0 (R42). -/
def m0Value (s : State) : Word10 := s.m0 &&& m0Mask

/-- The 9-bit modulo value of M0, the low-level period (R42). -/
def m0Modulo (s : State) : BitVec 9 := s.m0.extractLsb' 0 9

/-- The 9-bit modulo value of M1, the high-level period (R41). -/
def m1Modulo (s : State) : BitVec 9 := s.m1.extractLsb' 0 9

/-- CARY, bit 9 of M1 (R41): 0 lets the carrier out on REM. -/
def cary (s : State) : Bool := s.m1.getLsbD 9

/-- A register that carrier or steady output needs was never written since the last reset (R326, R328). -/
def outputUnready (s : State) : Bool := !s.carrier.m1Written || (!cary s && !s.carrier.m0Written)

/-- `TimerWrite` (R322): T takes the value, the timer operates, the carrier generator restarts from the low
phase. Output with an unwritten modulo register spoils the REM waveform (R328). -/
def timerWrite (v : Word10) (s : State) : State :=
  { s with
    t := v
    trun := true
    carrier := { s.carrier with
      count := m0Modulo s
      high := false
      unspecified := s.carrier.unspecified || (v.getLsbD 9 && outputUnready s) } }

/-- Writes M0: bit 9 stays 0 (R42). A modulo value of 000H, or a write while the output is active, spoils
the REM waveform (R328). -/
def writeM0 (v : Word10) (s : State) : State :=
  { s with
    m0 := v &&& m0Mask
    carrier := { s.carrier with
      m0Written := true
      unspecified := s.carrier.unspecified || outputActive s || v.extractLsb' 0 9 == 0 } }

/-- Writes M1 (R41), with the same conditions on the REM waveform (R328). -/
def writeM1 (v : Word10) (s : State) : State :=
  { s with
    m1 := v
    carrier := { s.carrier with
      m1Written := true
      unspecified := s.carrier.unspecified || outputActive s || v.extractLsb' 0 9 == 0 } }

/-- The higher nibble `X1 = (t9, t8, t7, t6)` of T, M0 or M1 (R240). -/
def nibbleHigh (v : Word10) : Nibble := v.extractLsb' 6 4

/-- The lower nibble `X0 = (t5, t4, t3, t2)` (R240). -/
def nibbleLow (v : Word10) : Nibble := v.extractLsb' 2 4

/-- A write of the higher nibble: t9..t6 take the value and t1 becomes 0 (R240, R244). -/
def withNibbleHigh (x : Nibble) (v : Word10) : Word10 :=
  x ++ ((v.extractLsb' 2 4 ++ 0#1) ++ v.extractLsb' 0 1)

/-- A write of the lower nibble: t5..t2 take the value and t0 becomes 0 (R240, R244). -/
def withNibbleLow (x : Nibble) (v : Word10) : Word10 :=
  (v.extractLsb' 6 4 ++ x) ++ (v.extractLsb' 1 1 ++ 0#1)

/-! ## The carrier generator -/

/-- Carrier clocks in one machine cycle: the counter's clock is 2 fx, a machine cycle 64/fx (R324). -/
def clocksPerCycle : Nat := 128

/-- One carrier clock while the output is active (R324): a phase lasts its modulo value plus one. -/
def carrierClock (m0 m1 : BitVec 9) (c : Carrier) : Carrier :=
  if c.count ≠ 0 then { c with count := c.count - 1 }
  else if c.high then { c with count := m0, high := false }
  else { c with count := m1, high := true }

/-- Carrier clocks one after the other. -/
def carrierClocks (m0 m1 : BitVec 9) : Nat → Carrier → Carrier
  | 0, c => c
  | k + 1, c => carrierClocks m0 m1 k (carrierClock m0 m1 c)

/-- Where the generator stands in its period of `t_L` then `t_H` carrier clocks. -/
def carrierPosition (m0 m1 : BitVec 9) (c : Carrier) : Nat :=
  if c.high then carrierPhaseClocks m0 + (m1.toNat - c.count.toNat) else m0.toNat - c.count.toNat

/-- The generator put at a position of its period. -/
def carrierAt (m0 m1 : BitVec 9) (pos : Nat) (c : Carrier) : Carrier :=
  if pos < carrierPhaseClocks m0 then
    { c with count := BitVec.ofNat 9 (m0.toNat - pos), high := false }
  else { c with count := BitVec.ofNat 9 (m1.toNat - (pos - carrierPhaseClocks m0)), high := true }

/-- `clocksPerCycle` clocks at once while the output is active: the position advances modulo the period. -/
def carrierCycleActive (m0 m1 : BitVec 9) (c : Carrier) : Carrier :=
  carrierAt m0 m1 ((carrierPosition m0 m1 c + clocksPerCycle) % carrierPeriodClocks m0 m1) c

/-- The generator at rest in the low phase. -/
def Carrier.rest (c : Carrier) : Carrier := { c with count := 0, high := false }

/-- A cycle in which the output is not active: a started high phase is completed, then the generator rests
in the low phase (R326). -/
def carrierCycleIdle (c : Carrier) : Carrier :=
  if c.high then
    if c.count.toNat < clocksPerCycle then c.rest
    else { c with count := c.count - BitVec.ofNat 9 clocksPerCycle }
  else c

/-- The carrier generator over one machine cycle, by the output at the start of the cycle (log 25). A high phase
that a steady output hides (CARY = 1) is none that R326 completes: the output ends with the generator at rest. -/
def carrierCycle (s : State) : Carrier :=
  if outputActive s then
    if cary s && timerCount s == 0 then s.carrier.rest
    else carrierCycleActive (m0Modulo s) (m1Modulo s) s.carrier
  else carrierCycleIdle s.carrier

/-! ## The count event -/

/-- The system clock runs in RUN and in HALT mode only (R321, R341). -/
def clockRuns : Mode → Bool
  | .run => true
  | .halt _ => true
  | .stop _ => false
  | .resetWait _ => false

/-- `Tick` (R321): the counter goes down, or, found at 0, ends the timer operation; t9 never changes. -/
def tick (s : State) : State :=
  if clockRuns s.mode then
    if timerCount s ≠ 0 then
      { s with t := s.t.extractLsb' 9 1 ++ (timerCount s - 1), carrier := carrierCycle s }
    else { s with trun := false, carrier := carrierCycle s }
  else s

/-- One tick per machine cycle of the instruction (R320). -/
def ticks : Nat → State → State
  | 0, s => s
  | k + 1, s => ticks k (tick s)

/-- Entry to STOP mode clears the counter, the output permit flag and the timer operation (R341), so REM is
low. -/
def timerStop (s : State) : State :=
  { s with t := 0, trun := false, carrier := s.carrier.rest }

end Sys2Proof.Machine
end

