-- ==== Sys2Proof/Machine/Operands.lean ====
section
/-! DEFINITION. Every operand form: data-memory cells and pairs (R27, R28, R91, R92), the return-address
storage shared with RF (R25, R26), the data pointer and table words (R36, R87 to R89), port registers (R50 to
R65). -/

namespace Sys2Proof.Machine

/-! ## Data memory -/

/-- The selected RAM page (R61, R91): P3[1:0] on the µPD69, page 0 on the other parts. -/
def ramPage (s : State) : BitVec 2 := if ramPages s.params.part = 4 then s.p3.extractLsb' 0 2 else 0

/-- The cell number of `RAM[page][m][n]` (R91). -/
def ramAddr (page : BitVec 2) (m : BitVec 1) (n : Nibble) : Nat := ((page ++ m) ++ n).toNat

/-- The page whose R0 and RF feed DP and ASR (R92): the selected one under `paged`, else page 0. -/
def r0RfPage (s : State) : BitVec 2 := if s.params.paged = .paged then ramPage s else 0

/-- `R0[n]` (m = 0) or `R1[n]` (m = 1) of the selected page (R10). -/
def readCell (m : BitVec 1) (n : Nibble) (s : State) : Nibble := s.mem.readRam (ramAddr (ramPage s) m n)

/-- `R0[n] <- v` or `R1[n] <- v` in the selected page (R10). -/
def writeCell (m : BitVec 1) (n : Nibble) (v : Nibble) (s : State) : State :=
  { s with mem := s.mem.writeRam (ramAddr (ramPage s) m n) v }

/-- `R[n] <- v8`: the pair is R1n (bits 7 to 4) with R0n (bits 3 to 0) (R28). -/
def writePair (n : Nibble) (v : Octet) (s : State) : State :=
  writeCell 0 n (v.extractLsb' 0 4) (writeCell 1 n (v.extractLsb' 4 4) s)

/-- Naming R0F, R1F or the pair RF as data makes `ASR[PC_BITS-1:8]` undefined (R26): a free value (log 10). -/
def touchRf (n : Nibble) (s : State) : State :=
  if n = 15 then
    { s with asrHigh := truncAsrHigh s.params.part (Config.freeAsrHigh s.free) }
  else s

/-- Under `PAGED_R0_RF = refuse` a page other than 0 is selected (R92). -/
def pagedRefused (s : State) : Bool := s.params.paged == .refuse && ramPage s != 0

/-- An access to a cell of R0 or RF that R92 refuses. -/
def cellRefused (n : Nibble) (s : State) : Bool := pagedRefused s && (n == 0 || n == 15)

/-- An instruction with a register operand `n`: refused by R92, or run on the state that R26 leaves. -/
def withCell (n : Nibble) (s : State) (k : State → Out) : Out :=
  if cellRefused n s then .refused .pagedR0Rf else k (touchRf n s)

/-! ## The address stack register -/

/-- `ASR` (R24, R25): the upper bits, then R1F and R0F. -/
def asrValue (s : State) : Addr :=
  s.asrHigh ++ (s.mem.readRam (ramAddr (r0RfPage s) 1 15) ++ s.mem.readRam (ramAddr (r0RfPage s) 0 15))

/-- `ASR <- v`: all `PC_BITS` bits, the lower 8 of them in RF (R25, R231). -/
def writeAsr (v : Addr) (s : State) : State :=
  { s with
    asrHigh := truncAsrHigh s.params.part (v.extractLsb' 8 4)
    mem := (s.mem.writeRam (ramAddr (r0RfPage s) 1 15) (v.extractLsb' 4 4)).writeRam
      (ramAddr (r0RfPage s) 0 15) (v.extractLsb' 0 4) }

/-! ## The data pointer and table words -/

/-- `DP = P3H || R1[0] || R0[0]` (R36). -/
def dataPointer (s : State) : Addr :=
  s.p3.extractLsb' 4 4 ++
    (s.mem.readRam (ramAddr (r0RfPage s) 1 0) ++ s.mem.readRam (ramAddr (r0RfPage s) 0 0))

/-- `MemRead(DP, 1)` at a mounted DP (R87): a word the image does not define is a free value (log 6). -/
def tableWord (s : State) : Word10 :=
  (s.mem.readRom (dataPointer s).toNat).getD (Config.freeRomWord (dataPointer s).toNat)

/-- An instruction with a table operand: refused by R92 or R89, or run on the table word. -/
def withTable (s : State) (k : Word10 → Out) : Out :=
  if pagedRefused s then .refused .pagedR0Rf
  else if mounted s.params.part (dataPointer s) then k (tableWord s)
  else .refused .tableOutsideMounted

/-- `@R0H`: ROM7..ROM4 of a table word (R88). -/
def tableHigh (d : Word10) : Nibble := d.extractLsb' 5 4

/-- `@R0L`: ROM3..ROM0 of a table word (R88). -/
def tableLow (d : Word10) : Nibble := d.extractLsb' 0 4

/-! ## Port registers -/

/-- P1 bit 3 (R52, R53, R327, R330): the S1/LED pin in input mode, the LED level in output mode, which is
low exactly while the output is active; in the boundary cycle the bit read is a free value (log 14). -/
def readLedBit (s : State) : Bool :=
  if s.p4.getLsbD 2 then
    if outputActive s && timerCount s == 0 then Config.freeLed s.free else !outputActive s
  else s.env.pins.s1

/-- P1 bit 2 (R52): the S0 pin in input mode, fixed to 1 in OFF mode. -/
def readS0Bit (s : State) : Bool := if s.p4.getLsbD 0 then s.env.pins.s0 else true

/-- The 8-bit read value of a port register (R51, R52, R59, R63). -/
def portValue (p : Port) (s : State) : Octet :=
  match p with
  | .p0 => if s.p4.getLsbD 1 then s.p0Latch else s.env.pins.kio
  | .p1 =>
    s.env.pins.ki ++
      ((BitVec.ofBool (readLedBit s) ++ BitVec.ofBool (readS0Bit s)) ++
        (BitVec.ofBool s.env.pins.s2 ++ 1#1))
  | .p3 => s.p3 &&& (p3Mask s.params.part)
  | .p4 => s.p4 &&& p4Mask

/-- `PortRead(m, n)` (R65): the lower nibble for m = 0, the higher one for m = 1. -/
def portRead (m : BitVec 1) (p : Port) (s : State) : Nibble :=
  if m = 0 then (portValue p s).extractLsb' 0 4 else (portValue p s).extractLsb' 4 4

/-- One nibble of an 8-bit register replaced. -/
def setNibble (m : BitVec 1) (v : Nibble) (b : Octet) : Octet :=
  if m = 0 then b.extractLsb' 4 4 ++ v else v ++ b.extractLsb' 0 4

/-- `PortWrite(m, n, v)` (R54, R65): P1 takes no write, fixed bits of P3 and P4 keep 0. -/
def portWrite (m : BitVec 1) (p : Port) (v : Nibble) (s : State) : State :=
  match p with
  | .p0 => { s with p0Latch := setNibble m v s.p0Latch }
  | .p1 => s
  | .p3 => { s with p3 := setNibble m v s.p3 &&& (p3Mask s.params.part) }
  | .p4 => { s with p4 := setNibble m v s.p4 &&& p4Mask }

/-- `OUT Pn,#data8`: both nibbles in one instruction (R65, R176). -/
def portWritePair (p : Port) (v : Octet) (s : State) : State :=
  portWrite 0 p (v.extractLsb' 0 4) (portWrite 1 p (v.extractLsb' 4 4) s)

end Sys2Proof.Machine
end

