-- ==== Sys2Proof/Machine/Ops.lean ====
section
/-! DEFINITION. The named operations the meanings are written in: ending an instruction, writing A with CY,
jumping, taking the system reset (the machine's only exception, R300) and leaving it. -/

namespace Sys2Proof.Machine

/-! ## Ending an instruction -/

/-- `next(k)` (R10): the address after an instruction of `k` words. -/
def State.nextPc (s : State) (k : Nat) : Addr := truncAddr s.params.part (s.pc + BitVec.ofNat 12 k)

/-- `pc <- next(k)`. -/
def retire (k : Nat) (s : State) : State := { s with pc := s.nextPc k }

/-! ## Writing A and CY -/

/-- ANL: `A <- a AND x` (R141). -/
def andA (x : Nibble) (s : State) : State := { s with a := s.a &&& x, cy := cyBothBit3 s.a x }

/-- ORL: `A <- a OR x`, CY cleared (R144). -/
def orA (x : Nibble) (s : State) : State := { s with a := s.a ||| x, cy := false }

/-- XRL: `A <- a XOR x` (R147). -/
def xorA (x : Nibble) (s : State) : State := { s with a := s.a ^^^ x, cy := cyBothBit3 s.a x }

/-- MOV to A and IN: `A <- x`, CY cleared (R35). -/
def loadA (x : Nibble) (s : State) : State := { s with a := x, cy := false }

/-- INC (R150). -/
def incrementA (s : State) : State := { s with a := s.a + 1, cy := cyAllOnes s.a }

/-- RL, and RLZ with A not 0 (R151, R152). -/
def rotateA (s : State) : State := { s with a := rotateLeft s.a, cy := cyBit3 s.a }

/-- SCAF (R282). -/
def scafA (s : State) : State := { s with a := scafValue s.a, cy := cyAllOnes s.a }

/-- CY holds no determined value (R252): a free value, on which JC and JNC run (log 12). -/
def forgetCy (s : State) : State := { s with cy := Config.freeCy s.free }

/-! ## Jumping -/

/-- `page || addr` cut to `PC_BITS` bits (R211). -/
def jumpTarget (p : Part) (page : BitVec 2) (addr : Word10) : Addr := truncAddr p (page ++ addr)

/-- A jump first word and its addr word (R211, R217): refused where the part lacks the page (R125 c), else to
the target if taken, to the next word if not. A flag without a determined value decides by the
free value it holds: the model's choice (logs 12 and 13). -/
def jumpIf (taken : Bool) (page : BitVec 2) (addr : Word10) (s : State) : Out :=
  if hasPage s.params.part page then
    .next { s with pc := if taken then jumpTarget s.params.part page addr else s.nextPc 2 }
  else .refused .pageNotOnPart

/-! ## The system reset -/

/-- The reset table (R71): every piece of state at its reset value; A, M0 and M1 without a determined value
(free values, log 9); the RAM retention flag, data memory but R0, and ASR unchanged; R0 of page 0 cleared
(R92). `held` says whether the POC circuit holds the reset signal (R350). -/
def resetState (held : Bool) (s : State) : State :=
  { s with
    pc := 0x000
    sp := 0
    a := Config.freeA s.free
    f := false
    cy := false
    t := 0
    trun := false
    m0 := Config.freeM0 s.free &&& m0Mask
    m1 := Config.freeM1 s.free
    carrier := Carrier.idle
    p0Latch := 0xFF
    p3 := s.p3 &&& 0x08
    p4 := 0x26
    mem := (s.mem.writeRam (ramAddr 0 1 0) 0).writeRam (ramAddr 0 0 0) 0
    mode := .resetWait held
    afterStop := false }

/-- RF and the upper ASR bits without a determined value (R231): free values (log 11). -/
def forgetAsr (s : State) : State :=
  { s with
    asrHigh := truncAsrHigh s.params.part (Config.freeAsrHigh s.free)
    mem :=
      (s.mem.writeRam (ramAddr (r0RfPage s) 1 15) (Config.freeRam s.free (ramAddr (r0RfPage s) 1 15))).writeRam
        (ramAddr (r0RfPage s) 0 15) (Config.freeRam s.free (ramAddr (r0RfPage s) 0 15)) }

/-- Data memory with the cells below `k` without a determined value. -/
def forgetCells (free : Nat) : Nat → Memory → Memory
  | 0, m => m
  | k + 1, m => (forgetCells free k m).writeRam k (Config.freeRam free k)

/-- V_DD fell below V_ID (R60, R351): the RAM retention flag is cleared, every cell of data memory and the
upper ASR bits are without a determined value (free values, log 27). -/
def loseRam (s : State) : State :=
  { s with
    asrHigh := truncAsrHigh s.params.part (Config.freeAsrHigh s.free)
    p3 := s.p3 &&& 0xF7
    mem := forgetCells s.free (32 * ramPages s.params.part) s.mem }

/-- `InternalReset(cause)`, and the POC reset (R302, R303): the raising instruction writes nothing of its own,
nothing is saved, the state becomes that of the reset table. -/
def internalReset (cause : ResetCause) (s : State) : State :=
  match cause with
  | .poc => resetState true s
  | .haltIllegal => resetState false s
  | .rlzZero => resetState false s
  | .spOverflow => resetState false (forgetAsr s)
  | .spUnderflow => resetState false s

/-- A POC reset, with or without loss of RAM (R350, R351). -/
def pocReset (ramLost : Bool) (s : State) : State :=
  internalReset .poc (if ramLost then loseRam s else s)

/-- The POC reset signal is cancelled, the oscillator's wait goes on (R352). -/
def releasePoc (s : State) : State := { s with mode := .resetWait false }

/-- Leaving RESET_WAIT (R352, R372): MODE = RUN, and the next fetch is at PC, which is 000H. Nothing is
restored: no reset returns (R304). -/
def leaveReset (s : State) : State := { s with mode := .run }

end Sys2Proof.Machine
end

