-- ==== Sys2Proof/Machine/Accumulator.lean ====
section
/-! DEFINITION. The accumulator instructions (40_accumulator.md, R140 to R152). -/

namespace Sys2Proof.Machine

/-- `ANL A,R0n` (R141). -/
def execAnlR0n (n : Nibble) (s : State) : Out :=
  withCell n s fun t => .next (retire 1 (andA (readCell 0 n s) t))

/-- `ANL A,R1n` (R141). -/
def execAnlR1n (n : Nibble) (s : State) : Out :=
  withCell n s fun t => .next (retire 1 (andA (readCell 1 n s) t))

/-- `ANL A,@R0H` (R142). -/
def execAnlTabH (s : State) : Out :=
  withTable s fun d => .next (retire 1 (andA (tableHigh d) s))

/-- `ANL A,@R0L` (R142). -/
def execAnlTabL (s : State) : Out :=
  withTable s fun d => .next (retire 1 (andA (tableLow d) s))

/-- `ANL A,#data4` (R143). -/
def execAnlData4 (d : Nibble) (s : State) : Out :=
  .next (retire 2 (andA d s))

/-- `ORL A,R0n` (R144). -/
def execOrlR0n (n : Nibble) (s : State) : Out :=
  withCell n s fun t => .next (retire 1 (orA (readCell 0 n s) t))

/-- `ORL A,R1n` (R144). -/
def execOrlR1n (n : Nibble) (s : State) : Out :=
  withCell n s fun t => .next (retire 1 (orA (readCell 1 n s) t))

/-- `ORL A,@R0H` (R145). -/
def execOrlTabH (s : State) : Out :=
  withTable s fun d => .next (retire 1 (orA (tableHigh d) s))

/-- `ORL A,@R0L` (R145). -/
def execOrlTabL (s : State) : Out :=
  withTable s fun d => .next (retire 1 (orA (tableLow d) s))

/-- `ORL A,#data4` (R146). -/
def execOrlData4 (d : Nibble) (s : State) : Out :=
  .next (retire 2 (orA d s))

/-- `XRL A,R0n` (R147). -/
def execXrlR0n (n : Nibble) (s : State) : Out :=
  withCell n s fun t => .next (retire 1 (xorA (readCell 0 n s) t))

/-- `XRL A,R1n` (R147). -/
def execXrlR1n (n : Nibble) (s : State) : Out :=
  withCell n s fun t => .next (retire 1 (xorA (readCell 1 n s) t))

/-- `XRL A,@R0H` (R148). -/
def execXrlTabH (s : State) : Out :=
  withTable s fun d => .next (retire 1 (xorA (tableHigh d) s))

/-- `XRL A,@R0L` (R148). -/
def execXrlTabL (s : State) : Out :=
  withTable s fun d => .next (retire 1 (xorA (tableLow d) s))

/-- `XRL A,#data4` (R149). -/
def execXrlData4 (d : Nibble) (s : State) : Out :=
  .next (retire 2 (xorA d s))

/-- `INC A` (R150). -/
def execIncA (s : State) : Out :=
  .next (retire 1 (incrementA s))

/-- `RL A` (R151). -/
def execRlA (s : State) : Out :=
  .next (retire 1 (rotateA s))

/-- `RLZ A` (R152): an internal reset when A is 0H. -/
def execRlzA (s : State) : Out :=
  if s.a = 0 then .next (internalReset .rlzZero s) else .next (retire 1 (rotateA s))

end Sys2Proof.Machine
end

