-- ==== Sys2Proof/Machine/Branch.lean ====
section
/-! DEFINITION. The branch instructions (43_branch.md, R210 to R217). -/

namespace Sys2Proof.Machine

/-- `JMP addr (page 0)` (R212). -/
def execJmpPage0 (addr : Word10) (s : State) : Out :=
  jumpIf true 0 addr s

/-- `JMP addr (page 1)` (R212). -/
def execJmpPage1 (addr : Word10) (s : State) : Out :=
  jumpIf true 1 addr s

/-- `JMP addr (page 2)` (R212). -/
def execJmpPage2 (addr : Word10) (s : State) : Out :=
  jumpIf true 2 addr s

/-- `JMP addr (page 3)` (R212). -/
def execJmpPage3 (addr : Word10) (s : State) : Out :=
  jumpIf true 3 addr s

/-- `JC addr (page 0)` (R213). -/
def execJcPage0 (addr : Word10) (s : State) : Out :=
  jumpIf s.cy 0 addr s

/-- `JC addr (page 1)` (R213). -/
def execJcPage1 (addr : Word10) (s : State) : Out :=
  jumpIf s.cy 1 addr s

/-- `JC addr (page 2)` (R213). -/
def execJcPage2 (addr : Word10) (s : State) : Out :=
  jumpIf s.cy 2 addr s

/-- `JC addr (page 3)` (R213). -/
def execJcPage3 (addr : Word10) (s : State) : Out :=
  jumpIf s.cy 3 addr s

/-- `JNC addr (page 0)` (R214). -/
def execJncPage0 (addr : Word10) (s : State) : Out :=
  jumpIf (!s.cy) 0 addr s

/-- `JNC addr (page 1)` (R214). -/
def execJncPage1 (addr : Word10) (s : State) : Out :=
  jumpIf (!s.cy) 1 addr s

/-- `JNC addr (page 2)` (R214). -/
def execJncPage2 (addr : Word10) (s : State) : Out :=
  jumpIf (!s.cy) 2 addr s

/-- `JNC addr (page 3)` (R214). -/
def execJncPage3 (addr : Word10) (s : State) : Out :=
  jumpIf (!s.cy) 3 addr s

/-- `JF addr (page 0)` (R215). -/
def execJfPage0 (addr : Word10) (s : State) : Out :=
  jumpIf s.f 0 addr s

/-- `JF addr (page 1)` (R215). -/
def execJfPage1 (addr : Word10) (s : State) : Out :=
  jumpIf s.f 1 addr s

/-- `JF addr (page 2)` (R215). -/
def execJfPage2 (addr : Word10) (s : State) : Out :=
  jumpIf s.f 2 addr s

/-- `JF addr (page 3)` (R215). -/
def execJfPage3 (addr : Word10) (s : State) : Out :=
  jumpIf s.f 3 addr s

/-- `JNF addr (page 0)` (R216). -/
def execJnfPage0 (addr : Word10) (s : State) : Out :=
  jumpIf (!s.f) 0 addr s

/-- `JNF addr (page 1)` (R216). -/
def execJnfPage1 (addr : Word10) (s : State) : Out :=
  jumpIf (!s.f) 1 addr s

/-- `JNF addr (page 2)` (R216). -/
def execJnfPage2 (addr : Word10) (s : State) : Out :=
  jumpIf (!s.f) 2 addr s

/-- `JNF addr (page 3)` (R216). -/
def execJnfPage3 (addr : Word10) (s : State) : Out :=
  jumpIf (!s.f) 3 addr s

end Sys2Proof.Machine
end

