-- ==== Sys2Proof/Machine/DataTransfer.lean ====
section
/-! DEFINITION. The data transfer instructions (42_data_transfer.md, R190 to R197). -/

namespace Sys2Proof.Machine

/-- `MOV A,R0n` (R191). -/
def execMovAR0n (n : Nibble) (s : State) : Out :=
  withCell n s fun t => .next (retire 1 (loadA (readCell 0 n s) t))

/-- `MOV A,R1n` (R191). -/
def execMovAR1n (n : Nibble) (s : State) : Out :=
  withCell n s fun t => .next (retire 1 (loadA (readCell 1 n s) t))

/-- `MOV A,@R0H` (R192). -/
def execMovATabH (s : State) : Out :=
  withTable s fun d => .next (retire 1 (loadA (tableHigh d) s))

/-- `MOV A,@R0L` (R193). -/
def execMovATabL (s : State) : Out :=
  withTable s fun d => .next (retire 1 (loadA (tableLow d) s))

/-- `MOV A,#data4` (R194). -/
def execMovAData4 (d : Nibble) (s : State) : Out :=
  .next (retire 2 (loadA d s))

/-- `MOV R0n,A` (R195). -/
def execMovR0nA (n : Nibble) (s : State) : Out :=
  withCell n s fun t => .next (retire 1 (writeCell 0 n t.a t))

/-- `MOV R1n,A` (R195). -/
def execMovR1nA (n : Nibble) (s : State) : Out :=
  withCell n s fun t => .next (retire 1 (writeCell 1 n t.a t))

/-- `MOV Rn,#data8` (R196). -/
def execMovRnData8 (n : Nibble) (d : Octet) (s : State) : Out :=
  withCell n s fun t => .next (retire 2 (writePair n d t))

/-- `MOV Rn,@R0` (R197), n = 1 to F: n = 0 is no instruction (R125 a). -/
def execMovRnTab (n : Nibble) (s : State) : Out :=
  if n = 0 then .refused .undefinedInstruction
  else withTable s fun d => withCell n s fun t => .next (retire 1 (writePair n (data8Of d) t))

end Sys2Proof.Machine
end

