-- ==== Sys2Proof/Machine/Io.lean ====
section
/-! DEFINITION. The I/O instructions (41_io.md, R170 to R176). -/

namespace Sys2Proof.Machine

/-- `IN A,P00` (R171). -/
def execInP00 (s : State) : Out :=
  .next (retire 1 (loadA (portRead 0 .p0 s) s))

/-- `IN A,P01` (R171). -/
def execInP01 (s : State) : Out :=
  .next (retire 1 (loadA (portRead 0 .p1 s) s))

/-- `IN A,P03` (R171). -/
def execInP03 (s : State) : Out :=
  .next (retire 1 (loadA (portRead 0 .p3 s) s))

/-- `IN A,P04` (R171). -/
def execInP04 (s : State) : Out :=
  .next (retire 1 (loadA (portRead 0 .p4 s) s))

/-- `IN A,P10` (R171). -/
def execInP10 (s : State) : Out :=
  .next (retire 1 (loadA (portRead 1 .p0 s) s))

/-- `IN A,P11` (R171). -/
def execInP11 (s : State) : Out :=
  .next (retire 1 (loadA (portRead 1 .p1 s) s))

/-- `IN A,P13` (R171). -/
def execInP13 (s : State) : Out :=
  .next (retire 1 (loadA (portRead 1 .p3 s) s))

/-- `IN A,P14` (R171). -/
def execInP14 (s : State) : Out :=
  .next (retire 1 (loadA (portRead 1 .p4 s) s))

/-- `OUT P00,A` (R172). -/
def execOutP00 (s : State) : Out :=
  .next (retire 1 (portWrite 0 .p0 s.a s))

/-- `OUT P01,A` (R172): P1 is read only (R54). -/
def execOutP01 (s : State) : Out :=
  .next (retire 1 (portWrite 0 .p1 s.a s))

/-- `OUT P03,A` (R172). -/
def execOutP03 (s : State) : Out :=
  .next (retire 1 (portWrite 0 .p3 s.a s))

/-- `OUT P04,A` (R172). -/
def execOutP04 (s : State) : Out :=
  .next (retire 1 (portWrite 0 .p4 s.a s))

/-- `OUT P10,A` (R172). -/
def execOutP10 (s : State) : Out :=
  .next (retire 1 (portWrite 1 .p0 s.a s))

/-- `OUT P11,A` (R172): P1 is read only (R54). -/
def execOutP11 (s : State) : Out :=
  .next (retire 1 (portWrite 1 .p1 s.a s))

/-- `OUT P13,A` (R172). -/
def execOutP13 (s : State) : Out :=
  .next (retire 1 (portWrite 1 .p3 s.a s))

/-- `OUT P14,A` (R172). -/
def execOutP14 (s : State) : Out :=
  .next (retire 1 (portWrite 1 .p4 s.a s))

/-- `ANL A,P00` (R173). -/
def execAnlP00 (s : State) : Out :=
  .next (retire 1 (andA (portRead 0 .p0 s) s))

/-- `ANL A,P01` (R173). -/
def execAnlP01 (s : State) : Out :=
  .next (retire 1 (andA (portRead 0 .p1 s) s))

/-- `ANL A,P03` (R173). -/
def execAnlP03 (s : State) : Out :=
  .next (retire 1 (andA (portRead 0 .p3 s) s))

/-- `ANL A,P04` (R173). -/
def execAnlP04 (s : State) : Out :=
  .next (retire 1 (andA (portRead 0 .p4 s) s))

/-- `ANL A,P10` (R173). -/
def execAnlP10 (s : State) : Out :=
  .next (retire 1 (andA (portRead 1 .p0 s) s))

/-- `ANL A,P11` (R173). -/
def execAnlP11 (s : State) : Out :=
  .next (retire 1 (andA (portRead 1 .p1 s) s))

/-- `ANL A,P13` (R173). -/
def execAnlP13 (s : State) : Out :=
  .next (retire 1 (andA (portRead 1 .p3 s) s))

/-- `ANL A,P14` (R173). -/
def execAnlP14 (s : State) : Out :=
  .next (retire 1 (andA (portRead 1 .p4 s) s))

/-- `ORL A,P00` (R174). -/
def execOrlP00 (s : State) : Out :=
  .next (retire 1 (orA (portRead 0 .p0 s) s))

/-- `ORL A,P01` (R174). -/
def execOrlP01 (s : State) : Out :=
  .next (retire 1 (orA (portRead 0 .p1 s) s))

/-- `ORL A,P03` (R174). -/
def execOrlP03 (s : State) : Out :=
  .next (retire 1 (orA (portRead 0 .p3 s) s))

/-- `ORL A,P04` (R174). -/
def execOrlP04 (s : State) : Out :=
  .next (retire 1 (orA (portRead 0 .p4 s) s))

/-- `ORL A,P10` (R174). -/
def execOrlP10 (s : State) : Out :=
  .next (retire 1 (orA (portRead 1 .p0 s) s))

/-- `ORL A,P11` (R174). -/
def execOrlP11 (s : State) : Out :=
  .next (retire 1 (orA (portRead 1 .p1 s) s))

/-- `ORL A,P13` (R174). -/
def execOrlP13 (s : State) : Out :=
  .next (retire 1 (orA (portRead 1 .p3 s) s))

/-- `ORL A,P14` (R174). -/
def execOrlP14 (s : State) : Out :=
  .next (retire 1 (orA (portRead 1 .p4 s) s))

/-- `XRL A,P00` (R175). -/
def execXrlP00 (s : State) : Out :=
  .next (retire 1 (xorA (portRead 0 .p0 s) s))

/-- `XRL A,P01` (R175). -/
def execXrlP01 (s : State) : Out :=
  .next (retire 1 (xorA (portRead 0 .p1 s) s))

/-- `XRL A,P03` (R175). -/
def execXrlP03 (s : State) : Out :=
  .next (retire 1 (xorA (portRead 0 .p3 s) s))

/-- `XRL A,P04` (R175). -/
def execXrlP04 (s : State) : Out :=
  .next (retire 1 (xorA (portRead 0 .p4 s) s))

/-- `XRL A,P10` (R175). -/
def execXrlP10 (s : State) : Out :=
  .next (retire 1 (xorA (portRead 1 .p0 s) s))

/-- `XRL A,P11` (R175). -/
def execXrlP11 (s : State) : Out :=
  .next (retire 1 (xorA (portRead 1 .p1 s) s))

/-- `XRL A,P13` (R175). -/
def execXrlP13 (s : State) : Out :=
  .next (retire 1 (xorA (portRead 1 .p3 s) s))

/-- `XRL A,P14` (R175). -/
def execXrlP14 (s : State) : Out :=
  .next (retire 1 (xorA (portRead 1 .p4 s) s))

/-- `OUT P0,#data8` (R176). -/
def execOutP0Data8 (d : Octet) (s : State) : Out :=
  .next (retire 2 (portWritePair .p0 d s))

/-- `OUT P1,#data8` (R176): P1 is read only (R54). -/
def execOutP1Data8 (d : Octet) (s : State) : Out :=
  .next (retire 2 (portWritePair .p1 d s))

/-- `OUT P3,#data8` (R176). -/
def execOutP3Data8 (d : Octet) (s : State) : Out :=
  .next (retire 2 (portWritePair .p3 d s))

/-- `OUT P4,#data8` (R176). -/
def execOutP4Data8 (d : Octet) (s : State) : Out :=
  .next (retire 2 (portWritePair .p4 d s))

end Sys2Proof.Machine
end

