-- ==== Sys2Proof/Machine/Status.lean ====
section
/-! DEFINITION. The status condition of STTS and HALT (R272, R273, R275), and entering and leaving the standby
modes (R340 to R344). -/

namespace Sys2Proof.Machine

/-- `KI_HIGH` (R272). -/
def kiHigh (s : State) : Bool := s.env.pins.ki != 0

/-- `S_HIGH` (R272): an S pin counts only where P4 configures it. -/
def sHigh (s : State) : Bool :=
  (s.p4.getLsbD 0 && s.env.pins.s0) || (!s.p4.getLsbD 2 && s.env.pins.s1) ||
    (s.p4.getLsbD 3 && s.env.pins.s2)

/-- `TMR_ZERO` (R272). -/
def tmrZero (s : State) : Bool := timerCount s == 0

/-- The base condition of an operand's b2 b1 b0 (R272); `none` for the values in neither table. -/
def baseCond (d : Nibble) (s : State) : Option Bool :=
  match (d.extractLsb' 0 3).toNat with
  | 0 => some (kiHigh s)
  | 3 => some (kiHigh s)
  | 6 => some (kiHigh s)
  | 5 => some (tmrZero s)
  | _ => none

/-- `Cond(b3 b2 b1 b0)` (R272): with b3 = 1 a high S pin is added. -/
def statusCond (d : Nibble) (s : State) : Option Bool :=
  (baseCond d s).map fun base => base || (d.getLsbD 3 && sHigh s)

/-- What STTS leaves in F (R273, R274): without a determined value where the tables have no row (R281), which
is a free value (log 13). -/
def sttsValue (d : Nibble) (s : State) : Bool := (statusCond d s).getD (Config.freeF s.free)

/-- STTS writes F and nothing else (R273). -/
def stts (d : Nibble) (s : State) : State := { s with f := sttsValue d s }

/-- A HALT operand of Table 5-3 (R275). -/
def haltListed (d : Nibble) : Bool :=
  match (d.extractLsb' 0 3).toNat with
  | 0 => true
  | 3 => true
  | 6 => true
  | 5 => true
  | _ => false

/-- The HALT-mode operand ×101B, against the STOP-mode operands (R275). -/
def haltIsTimer (d : Nibble) : Bool := d.extractLsb' 0 3 == 0b101#3

/-- The precondition for setup (R275): all K_I/O pins, or for ×110B the pin K_I/O0, in high-level output. -/
def haltPrecondition (d : Nibble) (s : State) : Bool :=
  match (d.extractLsb' 0 3).toNat with
  | 0 => s.p4.getLsbD 1 && s.p0Latch == 0xFF
  | 3 => s.p4.getLsbD 1 && s.p0Latch == 0xFF
  | 6 => s.p4.getLsbD 1 && s.p0Latch.getLsbD 0
  | _ => true

/-- `Rel(d)` (R275): b3 adds nothing to ×101B. -/
def relCond (d : Nibble) (s : State) : Bool :=
  if haltIsTimer d then tmrZero s else kiHigh s || (d.getLsbD 3 && sHigh s)

/-- `EnterStandby(mode(d), d)` (R340, R341). -/
def enterStandby (d : Nibble) (s : State) : State :=
  if haltIsTimer d then { s with mode := .halt d } else { timerStop s with mode := .stop d }

/-- Release from HALT mode (R343, R344): F is set, the instruction after HALT follows in the same cycle. -/
def releaseHalt (s : State) : State := { s with f := true, mode := .run }

/-- Release from STOP mode (R344, R345): F is set; the first instruction must be NOP (R280). -/
def releaseStop (s : State) : State := { s with f := true, mode := .run, afterStop := true }

end Sys2Proof.Machine
end

