-- ==== Sys2Proof/Machine/Others.lean ====
section
/-! DEFINITION. The other instructions (46_others.md, R270 to R282). -/

namespace Sys2Proof.Machine

/-- `HALT #data4` (R276): an internal reset on an operand outside Table 5-3 or a precondition
that does not hold, whatever F is; no standby when the release condition holds (R278) or F is 1 (R277). -/
def execHaltData4 (d : Nibble) (s : State) : Out :=
  if !haltListed d || !haltPrecondition d s then .next (internalReset .haltIllegal s)
  else if relCond d s then .next { retire 2 s with f := true }
  else if s.f then .next { retire 2 s with f := false }
  else .next (enterStandby d (retire 2 s))

/-- `STTS #data4` (R273). -/
def execSttsData4 (d : Nibble) (s : State) : Out :=
  .next (retire 2 (stts d s))

/-- `STTS R0n` (R274). -/
def execSttsR0n (n : Nibble) (s : State) : Out :=
  withCell n s fun t => .next (retire 1 (stts (readCell 0 n s) t))

/-- `SCAF` (R282). -/
def execScaf (s : State) : Out :=
  .next (retire 1 (scafA s))

/-- `NOP` (R271). -/
def execNop (s : State) : Out :=
  .next (retire 1 s)

end Sys2Proof.Machine
end

