-- ==== Sys2Proof/Machine/Subroutine.lean ====
section
/-! DEFINITION. The subroutine instructions (44_subroutine.md, R230 to R233). -/

namespace Sys2Proof.Machine

/-- CALL into a page (R231): refused where the part lacks the page (R125 c) or by R92; an internal reset when
SP is 1; else the address after the three words goes into ASR. -/
def callTo (page : BitVec 2) (addr : Word10) (s : State) : Out :=
  if !hasPage s.params.part page then .refused .pageNotOnPart
  else if pagedRefused s then .refused .pagedR0Rf
  else if s.sp = 1 then .next (internalReset .spOverflow s)
  else
    .next { writeAsr (s.nextPc 3) s with sp := 1, pc := jumpTarget s.params.part page addr }

/-- `CALL addr (page 0)` (R231). -/
def execCallPage0 (addr : Word10) (s : State) : Out :=
  callTo 0 addr s

/-- `CALL addr (page 1)` (R231). -/
def execCallPage1 (addr : Word10) (s : State) : Out :=
  callTo 1 addr s

/-- `CALL addr (page 2)` (R231). -/
def execCallPage2 (addr : Word10) (s : State) : Out :=
  callTo 2 addr s

/-- `CALL addr (page 3)` (R231). -/
def execCallPage3 (addr : Word10) (s : State) : Out :=
  callTo 3 addr s

/-- `RET` (R232): an internal reset when SP is 0; upper ASR bits that an access
to RF left undefined are the free value drawn then (log 10). -/
def execRet (s : State) : Out :=
  if pagedRefused s then .refused .pagedR0Rf
  else if s.sp = 0 then .next (internalReset .spUnderflow s)
  else .next { s with pc := truncAddr s.params.part (asrValue s), sp := 0 }

end Sys2Proof.Machine
end

