-- ==== Sys2Proof/Machine/TimerOps.lean ====
section
/-! DEFINITION. The timer operation instructions (45_timer_ops.md, R240 to R253). -/

namespace Sys2Proof.Machine

/-- `MOV A,T0` (R241). -/
def execMovAT0 (s : State) : Out :=
  .next (retire 1 (loadA (nibbleLow s.t) s))

/-- `MOV A,T1` (R241). -/
def execMovAT1 (s : State) : Out :=
  .next (retire 1 (loadA (nibbleHigh s.t) s))

/-- `MOV A,M00` (R242). -/
def execMovAM00 (s : State) : Out :=
  .next (retire 1 (loadA (nibbleLow (m0Value s)) s))

/-- `MOV A,M01` (R242). -/
def execMovAM01 (s : State) : Out :=
  .next (retire 1 (loadA (nibbleHigh (m0Value s)) s))

/-- `MOV A,M10` (R243). -/
def execMovAM10 (s : State) : Out :=
  .next (retire 1 (loadA (nibbleLow s.m1) s))

/-- `MOV A,M11` (R243). -/
def execMovAM11 (s : State) : Out :=
  .next (retire 1 (loadA (nibbleHigh s.m1) s))

/-- `MOV T0,A` (R244). -/
def execMovT0A (s : State) : Out :=
  .next (retire 1 (timerWrite (withNibbleLow s.a s.t) s))

/-- `MOV T1,A` (R244). -/
def execMovT1A (s : State) : Out :=
  .next (retire 1 (timerWrite (withNibbleHigh s.a s.t) s))

/-- `MOV M00,A` (R245): CY without a determined value (R252). -/
def execMovM00A (s : State) : Out :=
  .next (retire 1 (forgetCy (writeM0 (withNibbleLow s.a (m0Value s)) s)))

/-- `MOV M01,A` (R245): CY without a determined value (R252). -/
def execMovM01A (s : State) : Out :=
  .next (retire 1 (forgetCy (writeM0 (withNibbleHigh s.a (m0Value s)) s)))

/-- `MOV M10,A` (R246): CY without a determined value (R252). -/
def execMovM10A (s : State) : Out :=
  .next (retire 1 (forgetCy (writeM1 (withNibbleLow s.a s.m1) s)))

/-- `MOV M11,A` (R246): CY without a determined value (R252). -/
def execMovM11A (s : State) : Out :=
  .next (retire 1 (forgetCy (writeM1 (withNibbleHigh s.a s.m1) s)))

/-- `MOV T,#data10` (R247). -/
def execMovTData10 (d : Word10) (s : State) : Out :=
  .next (retire 2 (timerWrite d s))

/-- `MOV M0,#data10` (R248). -/
def execMovM0Data10 (d : Word10) (s : State) : Out :=
  .next (retire 2 (writeM0 d s))

/-- `MOV M1,#data10` (R249). -/
def execMovM1Data10 (d : Word10) (s : State) : Out :=
  .next (retire 2 (writeM1 d s))

/-- `MOV T,@R0` (R250). -/
def execMovTTab (s : State) : Out :=
  withTable s fun d => .next (retire 1 (timerWrite (data10Of d) s))

/-- `MOV M0,@R0` (R251). -/
def execMovM0Tab (s : State) : Out :=
  withTable s fun d => .next (retire 1 (writeM0 (data10Of d) s))

/-- `MOV M1,@R0` (R253). -/
def execMovM1Tab (s : State) : Out :=
  withTable s fun d => .next (retire 1 (writeM1 (data10Of d) s))

end Sys2Proof.Machine
end

