-- ==== Sys2Proof/Machine/Dispatch.lean ====
section
/-! DEFINITION. One arm per instruction: the call of its meaning. -/

namespace Sys2Proof.Machine

def exec (i : Instr) (s : State) : Host.Outcome State Fault Refusal :=
  match i with
  | .anlR0n n => Sys2Proof.Machine.execAnlR0n n s
  | .anlR1n n => Sys2Proof.Machine.execAnlR1n n s
  | .anlTabH => Sys2Proof.Machine.execAnlTabH s
  | .anlTabL => Sys2Proof.Machine.execAnlTabL s
  | .anlData4 d => Sys2Proof.Machine.execAnlData4 d s
  | .orlR0n n => Sys2Proof.Machine.execOrlR0n n s
  | .orlR1n n => Sys2Proof.Machine.execOrlR1n n s
  | .orlTabH => Sys2Proof.Machine.execOrlTabH s
  | .orlTabL => Sys2Proof.Machine.execOrlTabL s
  | .orlData4 d => Sys2Proof.Machine.execOrlData4 d s
  | .xrlR0n n => Sys2Proof.Machine.execXrlR0n n s
  | .xrlR1n n => Sys2Proof.Machine.execXrlR1n n s
  | .xrlTabH => Sys2Proof.Machine.execXrlTabH s
  | .xrlTabL => Sys2Proof.Machine.execXrlTabL s
  | .xrlData4 d => Sys2Proof.Machine.execXrlData4 d s
  | .incA => Sys2Proof.Machine.execIncA s
  | .rlA => Sys2Proof.Machine.execRlA s
  | .rlzA => Sys2Proof.Machine.execRlzA s
  | .inP00 => Sys2Proof.Machine.execInP00 s
  | .inP01 => Sys2Proof.Machine.execInP01 s
  | .inP03 => Sys2Proof.Machine.execInP03 s
  | .inP04 => Sys2Proof.Machine.execInP04 s
  | .inP10 => Sys2Proof.Machine.execInP10 s
  | .inP11 => Sys2Proof.Machine.execInP11 s
  | .inP13 => Sys2Proof.Machine.execInP13 s
  | .inP14 => Sys2Proof.Machine.execInP14 s
  | .outP00 => Sys2Proof.Machine.execOutP00 s
  | .outP01 => Sys2Proof.Machine.execOutP01 s
  | .outP03 => Sys2Proof.Machine.execOutP03 s
  | .outP04 => Sys2Proof.Machine.execOutP04 s
  | .outP10 => Sys2Proof.Machine.execOutP10 s
  | .outP11 => Sys2Proof.Machine.execOutP11 s
  | .outP13 => Sys2Proof.Machine.execOutP13 s
  | .outP14 => Sys2Proof.Machine.execOutP14 s
  | .anlP00 => Sys2Proof.Machine.execAnlP00 s
  | .anlP01 => Sys2Proof.Machine.execAnlP01 s
  | .anlP03 => Sys2Proof.Machine.execAnlP03 s
  | .anlP04 => Sys2Proof.Machine.execAnlP04 s
  | .anlP10 => Sys2Proof.Machine.execAnlP10 s
  | .anlP11 => Sys2Proof.Machine.execAnlP11 s
  | .anlP13 => Sys2Proof.Machine.execAnlP13 s
  | .anlP14 => Sys2Proof.Machine.execAnlP14 s
  | .orlP00 => Sys2Proof.Machine.execOrlP00 s
  | .orlP01 => Sys2Proof.Machine.execOrlP01 s
  | .orlP03 => Sys2Proof.Machine.execOrlP03 s
  | .orlP04 => Sys2Proof.Machine.execOrlP04 s
  | .orlP10 => Sys2Proof.Machine.execOrlP10 s
  | .orlP11 => Sys2Proof.Machine.execOrlP11 s
  | .orlP13 => Sys2Proof.Machine.execOrlP13 s
  | .orlP14 => Sys2Proof.Machine.execOrlP14 s
  | .xrlP00 => Sys2Proof.Machine.execXrlP00 s
  | .xrlP01 => Sys2Proof.Machine.execXrlP01 s
  | .xrlP03 => Sys2Proof.Machine.execXrlP03 s
  | .xrlP04 => Sys2Proof.Machine.execXrlP04 s
  | .xrlP10 => Sys2Proof.Machine.execXrlP10 s
  | .xrlP11 => Sys2Proof.Machine.execXrlP11 s
  | .xrlP13 => Sys2Proof.Machine.execXrlP13 s
  | .xrlP14 => Sys2Proof.Machine.execXrlP14 s
  | .outP0Data8 d => Sys2Proof.Machine.execOutP0Data8 d s
  | .outP1Data8 d => Sys2Proof.Machine.execOutP1Data8 d s
  | .outP3Data8 d => Sys2Proof.Machine.execOutP3Data8 d s
  | .outP4Data8 d => Sys2Proof.Machine.execOutP4Data8 d s
  | .movAR0n n => Sys2Proof.Machine.execMovAR0n n s
  | .movAR1n n => Sys2Proof.Machine.execMovAR1n n s
  | .movATabH => Sys2Proof.Machine.execMovATabH s
  | .movATabL => Sys2Proof.Machine.execMovATabL s
  | .movAData4 d => Sys2Proof.Machine.execMovAData4 d s
  | .movR0nA n => Sys2Proof.Machine.execMovR0nA n s
  | .movR1nA n => Sys2Proof.Machine.execMovR1nA n s
  | .movRnData8 n d => Sys2Proof.Machine.execMovRnData8 n d s
  | .movRnTab n => Sys2Proof.Machine.execMovRnTab n s
  | .jmpPage0 addr => Sys2Proof.Machine.execJmpPage0 addr s
  | .jmpPage1 addr => Sys2Proof.Machine.execJmpPage1 addr s
  | .jmpPage2 addr => Sys2Proof.Machine.execJmpPage2 addr s
  | .jmpPage3 addr => Sys2Proof.Machine.execJmpPage3 addr s
  | .jcPage0 addr => Sys2Proof.Machine.execJcPage0 addr s
  | .jcPage1 addr => Sys2Proof.Machine.execJcPage1 addr s
  | .jcPage2 addr => Sys2Proof.Machine.execJcPage2 addr s
  | .jcPage3 addr => Sys2Proof.Machine.execJcPage3 addr s
  | .jncPage0 addr => Sys2Proof.Machine.execJncPage0 addr s
  | .jncPage1 addr => Sys2Proof.Machine.execJncPage1 addr s
  | .jncPage2 addr => Sys2Proof.Machine.execJncPage2 addr s
  | .jncPage3 addr => Sys2Proof.Machine.execJncPage3 addr s
  | .jfPage0 addr => Sys2Proof.Machine.execJfPage0 addr s
  | .jfPage1 addr => Sys2Proof.Machine.execJfPage1 addr s
  | .jfPage2 addr => Sys2Proof.Machine.execJfPage2 addr s
  | .jfPage3 addr => Sys2Proof.Machine.execJfPage3 addr s
  | .jnfPage0 addr => Sys2Proof.Machine.execJnfPage0 addr s
  | .jnfPage1 addr => Sys2Proof.Machine.execJnfPage1 addr s
  | .jnfPage2 addr => Sys2Proof.Machine.execJnfPage2 addr s
  | .jnfPage3 addr => Sys2Proof.Machine.execJnfPage3 addr s
  | .callPage0 addr => Sys2Proof.Machine.execCallPage0 addr s
  | .callPage1 addr => Sys2Proof.Machine.execCallPage1 addr s
  | .callPage2 addr => Sys2Proof.Machine.execCallPage2 addr s
  | .callPage3 addr => Sys2Proof.Machine.execCallPage3 addr s
  | .ret => Sys2Proof.Machine.execRet s
  | .movAT0 => Sys2Proof.Machine.execMovAT0 s
  | .movAT1 => Sys2Proof.Machine.execMovAT1 s
  | .movAM00 => Sys2Proof.Machine.execMovAM00 s
  | .movAM01 => Sys2Proof.Machine.execMovAM01 s
  | .movAM10 => Sys2Proof.Machine.execMovAM10 s
  | .movAM11 => Sys2Proof.Machine.execMovAM11 s
  | .movT0A => Sys2Proof.Machine.execMovT0A s
  | .movT1A => Sys2Proof.Machine.execMovT1A s
  | .movM00A => Sys2Proof.Machine.execMovM00A s
  | .movM01A => Sys2Proof.Machine.execMovM01A s
  | .movM10A => Sys2Proof.Machine.execMovM10A s
  | .movM11A => Sys2Proof.Machine.execMovM11A s
  | .movTData10 d => Sys2Proof.Machine.execMovTData10 d s
  | .movM0Data10 d => Sys2Proof.Machine.execMovM0Data10 d s
  | .movM1Data10 d => Sys2Proof.Machine.execMovM1Data10 d s
  | .movTTab => Sys2Proof.Machine.execMovTTab s
  | .movM0Tab => Sys2Proof.Machine.execMovM0Tab s
  | .movM1Tab => Sys2Proof.Machine.execMovM1Tab s
  | .haltData4 d => Sys2Proof.Machine.execHaltData4 d s
  | .sttsData4 d => Sys2Proof.Machine.execSttsData4 d s
  | .sttsR0n n => Sys2Proof.Machine.execSttsR0n n s
  | .scaf => Sys2Proof.Machine.execScaf s
  | .nop => Sys2Proof.Machine.execNop s

end Sys2Proof.Machine
end

