-- ==== Sys2Proof/Machine/Run.lean ====
section
/-! DEFINITION. What a step does: it samples the environment, then, by the operating state, waits, leaves a
standby mode or a reset, or fetches and runs one instruction with its count events (R86, R97, R127, R321,
R340 to R353, R372). -/

namespace Sys2Proof.Machine

/-! ## Instruction fetch -/

/-- The result of a fetch. -/
inductive Fetched where
  | ok (i : Instr)
  | fault (r : Fault)
  | refused (r : Refusal)
deriving DecidableEq, Repr

/-- `MemRead(pc + k, 1)` for an instruction word (R83, R84, R86). -/
def fetchWord (s : State) (k : Nat) : Except Fault Word10 :=
  if mounted s.params.part (s.nextPc k) then
    match s.mem.readRom (s.nextPc k).toNat with
    | some w => .ok w
    | none => .error .fetchUndefinedWord
  else .error .fetchOutsideMounted

/-- `n` words from `pc + k` on. -/
def fetchWords (s : State) : Nat → Nat → Except Fault (List Word10)
  | _, 0 => .ok []
  | k, n + 1 =>
    match fetchWord s k with
    | .error r => .error r
    | .ok w =>
      match fetchWords s (k + 1) n with
      | .error r => .error r
      | .ok ws => .ok (w :: ws)

/-- The refusal of words that are no instruction (R125, R126). -/
def decodeRefusal : DecodeError → Refusal
  | .undefinedWord => .undefinedInstruction
  | .callPrefix => .callPrefix
  | .operandBits => .operandBits
  | .truncated => .undefinedInstruction

/-- The decoding procedure (R127): the first word, its length, the operand words, the instruction. -/
def fetchInstr (s : State) : Fetched :=
  match fetchWord s 0 with
  | .error r => .fault r
  | .ok w0 =>
    match decodeFirst w0 with
    | none => .refused .undefinedInstruction
    | some form =>
      match fetchWords s 1 (formWords form - 1) with
      | .error r => .fault r
      | .ok ws =>
        match decode s.params.layout (w0 :: ws) with
        | .ok (i, _) => .ok i
        | .error e => .refused (decodeRefusal e)

/-- Program words stored at `pc`, `pc + 1`, ... -/
def storeWords (p : Part) (pc : Addr) : Nat → List Word10 → Memory → Memory
  | _, [], m => m
  | k, w :: ws, m =>
    storeWords p pc (k + 1) ws (m.writeRom (truncAddr p (pc + BitVec.ofNat 12 k)).toNat w)

/-! ## Machine cycles -/

/-- Machine cycles of an instruction (R390): 2 for CALL, else 1. -/
def cyclesOf : Instr → Nat
  | .callPage0 _ => 2
  | .callPage1 _ => 2
  | .callPage2 _ => 2
  | .callPage3 _ => 2
  | _ => 1

/-- The timer manipulation instructions (R322): their cycle's Tick is dropped (R321). -/
def writesTimer : Instr → Bool
  | .movT0A => true
  | .movT1A => true
  | .movTData10 _ => true
  | .movTTab => true
  | _ => false

/-- The next step draws its free values at a new index (log 8). -/
def advanceFree (s : State) : State := { s with free := s.free + 1 }

/-- The count events that go with an instruction (R320, R321). -/
def endCycles (i : Instr) (s : State) : State :=
  advanceFree (if writesTimer i then s else ticks (cyclesOf i) s)

/-- Runs an instruction: it must be NOP right after a STOP mode release (R280). -/
def runFetched (i : Instr) (s : State) : Out :=
  if s.afterStop && i != .nop then .refused .notNopAfterStop
  else
    match exec i { s with afterStop := false } with
    | .next t => .next (endCycles i t)
    | .fault r => .fault r
    | .refused r => .refused r

/-- Fetches and runs one instruction. -/
def runInstr (s : State) : Out :=
  match fetchInstr s with
  | .ok i => runFetched i s
  | .fault r => .fault r
  | .refused r => .refused r

/-! ## The step -/

/-- The next sample of the environment; when none is left the last one stays (log 15). -/
def sample (s : State) : State :=
  match s.inputs with
  | [] => s
  | e :: rest => { s with env := e, inputs := rest }

/-- HALT mode (R342, R343): a waiting cycle is one Tick; when the condition holds the next instruction runs in
that same cycle. -/
def haltCycle (d : Nibble) (s : State) : Out :=
  if relCond d s then runInstr (releaseHalt s) else .next (advanceFree (tick s))

/-- The oscillator's wait is over (R345, R352): when the environment says so, and at the latest when no sample is
left, so that a wait does not last for ever (logs 16 and 17). -/
def waitOver (s : State) : Bool := s.env.oscStable || s.inputs.isEmpty

/-- STOP mode (R345): while the condition does not hold the machine stays; while it holds the machine may leave,
and leaves if it stays true (log 16). -/
def stopCycle (d : Nibble) (s : State) : Out :=
  if relCond d s && waitOver s then .next (advanceFree (releaseStop s)) else .next (advanceFree s)

/-- RESET_WAIT with the supply above V_POC (R350, R352, R372): a reset signal that the POC circuit still holds is
cancelled now, which is the moment of R374; then the oscillator's wait runs its course (logs 17 and 18). -/
def resetCycle (held : Bool) (s : State) : Out :=
  if held && s.env.pins.ki == 0xF then .refused .kiHighAtPocRelease
  else if waitOver s then .next (advanceFree (leaveReset s))
  else .next (advanceFree (releasePoc s))

/-- One step by the operating state, the supply being normal. -/
def modeCycle (s : State) : Out :=
  match s.mode with
  | .run => runInstr s
  | .halt d => haltCycle d s
  | .stop d => stopCycle d s
  | .resetWait held => resetCycle held s

/-- One step after the environment was sampled: the supply decides first (R350, R351, R386). -/
def cycle (s : State) : Out :=
  match s.env.supply with
  | .normal => modeCycle s
  | .dip => .refused .supplyMalfunction
  | .belowPoc => .next (advanceFree (pocReset false s))
  | .belowVid => .next (advanceFree (pocReset true s))

/-- The machine made ready to run the words `ws` at its next step: they are the mask's words at `pc`, MODE is
RUN, no sample is pending and the supply is normal (log 28). -/
def placeProgram (ws : List Word10) (s : State) : State :=
  { s with
    mem := storeWords s.params.part s.pc 0 ws s.mem
    mode := .run
    afterStop := false
    env := { s.env with supply := .normal }
    inputs := [] }

end Sys2Proof.Machine
end

