-- ==== Sys2Proof/Machine/Step.lean ====
section
/-! DEFINITION. The step, and the state in which it fetches a given instruction next. -/

namespace Sys2Proof.Machine

/-- One step: an instruction with its machine cycles, a waiting cycle of a standby mode, or a moment of a
reset (R13, R97). -/
def step (s : State) : Host.Outcome State Fault Refusal := cycle (sample s)

/-- The instruction of the opcode table's bits placed where the next step fetches it (log 28). -/
def State.withFetchWord (s : State) (nbits w : Nat) : State := placeProgram (tableWords nbits w) s

end Sys2Proof.Machine
end

