-- ==== Sys2Proof/Machine/Outputs.lean ====
section
/-! DEFINITION. What the chip drives, as functions of the state (R51, R66, R326, R327, R353): the K_I/O pins,
the S1/LED pin and REM. No instruction reads REM. -/

namespace Sys2Proof.Machine

/-- The level the chip drives on a K_I/O pin (R51): the latch in output mode, nothing in input mode. -/
def kioDrive (s : State) : Option Octet := if s.p4.getLsbD 1 then some s.p0Latch else none

/-- The level of the S1/LED pin as an output (R327): low exactly while the timer output is active; not
driven in S1 mode. -/
def ledDrive (s : State) : Option Bool := if s.p4.getLsbD 2 then some (!outputActive s) else none

/-- What REM carries in a machine cycle (R326). -/
inductive RemOutput where
  | low
  | high
  /-- The carrier, with the level of its phase at the start of the cycle. -/
  | carrier (level : Bool)
  /-- A rule of R328 was broken since the last reset. -/
  | unspecified
deriving DecidableEq, Repr

/-- REM (R326): active only with t9 = 1 and TRUN = 1; CARY = 1 makes it a steady high level; a high phase that
the carrier had started when the output ended is completed, whatever CARY is by then. -/
def remOutput (s : State) : RemOutput :=
  if s.carrier.unspecified then .unspecified
  else if outputActive s then if cary s then .high else .carrier s.carrier.high
  else if s.carrier.high then .carrier true
  else .low

/-- The K_I pull-down resistors are connected (R63 bit 5). -/
def kiPullDown (s : State) : Bool := s.p4.getLsbD 5

/-- The S0 and S1 pull-down resistors (R63 bit 4): each only in the pin's input mode. -/
def sPullDown (s : State) : Bool × Bool :=
  (s.p4.getLsbD 4 && s.p4.getLsbD 0, s.p4.getLsbD 4 && !s.p4.getLsbD 2)

/-- The S2 pull-down resistor (R63 bit 3). -/
def s2PullDown (s : State) : Bool := s.p4.getLsbD 3

end Sys2Proof.Machine
end

