-- ==== Sys2Proof/Safety.lean ====
section
/-! DEFINITION. What counts as a safe run in the terms the statements use: the invariant every step keeps, and
the end of a run as R395 defines it. -/

namespace Sys2Proof.Machine

/-- PC and ASR fit in `PC_BITS` bits (R20, R24). -/
abbrev addressesFit (s : State) : Prop :=
  truncAddr s.params.part s.pc = s.pc ∧ truncAsrHigh s.params.part s.asrHigh = s.asrHigh

/-- The fixed bits hold 0: M0 bit 9, P3 bit 2 and, but on the µPD69, bits 1 and 0, P4 bits 7 and 6 (R42, R59,
R63). -/
abbrev fixedBitsZero (s : State) : Prop :=
  s.m0 &&& m0Mask = s.m0 ∧ s.p3 &&& p3Mask s.params.part = s.p3 ∧ s.p4 &&& p4Mask = s.p4

/-- The operating state is one the machine can be in (R275, R340 to R342): HALT mode only with ×101B, STOP
mode only with the other listed operands and the timer cleared, either with F = 0. -/
def modeLegal (s : State) : Prop :=
  match s.mode with
  | .run => True
  | .halt d => haltIsTimer d = true ∧ s.f = false
  | .stop d => haltListed d = true ∧ haltIsTimer d = false ∧ s.f = false ∧ s.t = 0 ∧ s.trun = false
  | .resetWait _ => s.pc = 0 ∧ s.sp = 0 ∧ s.f = false ∧ s.cy = false ∧ s.t = 0 ∧ s.trun = false

/-- While the output is active and no rule of R328 was broken, the carrier counter is within its phase (R324). -/
def carrierInPhase (s : State) : Prop :=
  outputActive s = true → s.carrier.unspecified = false →
    s.carrier.count ≤ (if s.carrier.high then m1Modulo s else m0Modulo s)

/-- The invariant of the machine. -/
structure Inv (s : State) : Prop where
  memory : s.mem.wf
  addresses : addressesFit s
  fixedBits : fixedBitsZero s
  mode : modeLegal s
  carrier : carrierInPhase s

/-- The step neither faults nor is refused. -/
def stepRuns (s : State) : Prop := ∃ t, step s = .next t

/-- `k` steps, none of which faults or is refused. -/
def runsTo : Nat → State → State → Prop
  | 0, s, t => s = t
  | k + 1, s, t => ∃ u, step s = .next u ∧ runsTo k u t

/-- The samples the steps from here on read: those listed, or, none being listed, the last one (log 15). -/
def samplesToCome (s : State) : List Env := if s.inputs.isEmpty then [s.env] else s.inputs

/-- The machine with MODE = RUN before the next word is fetched. In HALT mode the step that finds the release
condition true passes through that point with F set (R343, R344). -/
def beforeFetch (s : State) : Option State :=
  match s.mode with
  | .run => some s
  | .halt d =>
    if relCond d (sample s) && (sample s).env.supply == .normal then some (releaseHalt (sample s)) else none
  | .stop _ => none
  | .resetWait _ => none

/-- `END_ADDR` is an address of mounted program memory, or none (R6). -/
def endAddrAllowed (p : Part) (endAddr : Option Addr) : Bool := endAddr.all (mounted p)

/-- The end of a run at `END_ADDR` (R395 a): PC is there at an instruction boundary with MODE = RUN, before the word
is fetched. An address that R6 does not allow ends no run (log 30). -/
def atEnd (endAddr : Option Addr) (s : State) : Bool :=
  endAddrAllowed s.params.part endAddr && (beforeFetch s).any fun t => some t.pc == endAddr

/-- The quiescent end of a run (R395 b): STOP mode, and no sample to come makes the release condition true. -/
def quiescent (s : State) : Prop :=
  ∃ d, s.mode = .stop d ∧
    ∀ e ∈ samplesToCome s, relCond d { s with env := e } = false ∧ e.supply = .normal

end Sys2Proof.Machine
end

