-- ==== Sys2Proof/Certificates/Slice0/Obligations.lean ====
section
/-! DEFINITION. The statements for the provers, in the order of the spec's files: encoding, the step, each
family's instructions, the reset, the timer, the standby modes, and the rules over the whole machine. -/

open Sys2Proof Sys2Proof.Machine

/-! ## Words the statements share -/

/-- The word is the instruction, whatever follows it and under both address layouts. -/
abbrev Sys2Proof.Claims.oneWord (w : Word10) (i : Instr) : Prop :=
  ∀ lay ws, decode lay (w :: ws) = .ok (i, ws)

/-- The two words are the instruction. -/
abbrev Sys2Proof.Claims.twoWords (w0 w1 : Word10) (i : Instr) : Prop :=
  ∀ lay ws, decode lay (w0 :: w1 :: ws) = .ok (i, ws)

/-- The first word and its addr word are the jump to the ten address bits, under both address layouts. -/
abbrev Sys2Proof.Claims.jumpWords (w : Word10) (mk : Word10 → Instr) : Prop :=
  ∀ lay addr ws, decode lay (w :: addrWord lay addr :: ws) = .ok (mk addr, ws)

/-- `ppp` of a port selector (R170): the port number in binary. -/
def Sys2Proof.Claims.portBits : Port → BitVec 3
  | .p0 => 0b000
  | .p1 => 0b001
  | .p3 => 0b011
  | .p4 => 0b100

/-- The first word `op h 11 ppp` of a port instruction; `h = 1` is the lower nibble (R170). -/
def Sys2Proof.Claims.portWord (op : BitVec 4) (lower : Bool) (p : Port) : Word10 :=
  op ++ (BitVec.ofBool lower ++ (0b11#2 ++ Sys2Proof.Claims.portBits p))

/-- The instruction completes, writes A and CY, and nothing else but PC and, where it names RF, the upper ASR
bits, which hold no determined value then (R26, log 10). -/
abbrev Sys2Proof.Claims.cellToA (i : Instr) (n : Nibble) (s : State) (a : Nibble) (cy : Bool) : Prop :=
  ∃ t, exec i s = .next t ∧
    t = { s with a := a, cy := cy, asrHigh := t.asrHigh, pc := s.nextPc 1 } ∧
    (n ≠ 15 → t.asrHigh = s.asrHigh)

/-- The state after a timer write of `v` by an instruction of `k` words (R322): T, TRUN, the carrier generator
restarted from the low phase, PC. That a high phase ends at once and the counter starts at M0[8:0] is the model's
choice (log 25). REM becomes unspecified exactly where output is started and M1, or with CARY = 0 M0, was not written
since the last reset (R326, R328, log 26). -/
abbrev Sys2Proof.Claims.timerStarted (s t : State) (v : Word10) (k : Nat) : Prop :=
  t = { s with t := v, trun := true, carrier := t.carrier, pc := s.nextPc k } ∧
    t.carrier =
      { count := s.m0.extractLsb' 0 9, high := false, m0Written := s.carrier.m0Written,
        m1Written := s.carrier.m1Written,
        unspecified := s.carrier.unspecified ||
          (v.getLsbD 9 &&
            (!s.carrier.m1Written || (!s.m1.getLsbD 9 && !s.carrier.m0Written))) }

/-- A write of a modulo register that R328 forbids: the modulo value 000H, or a write while the output is active
(log 26). -/
abbrev Sys2Proof.Claims.forbiddenModulo (s : State) (v : Word10) : Bool :=
  (s.t.getLsbD 9 && s.trun) || v.extractLsb' 0 9 == 0

/-- The state after a write of M0 (the value's bit 9 is dropped) by an instruction of `k` words. -/
abbrev Sys2Proof.Claims.m0Loaded (s t : State) (v : Word10) (cy : Bool) (k : Nat) : Prop :=
  t = { s with m0 := v &&& 0x1FF, cy := cy, carrier := t.carrier, pc := s.nextPc k } ∧
    t.carrier =
      { s.carrier with
        m0Written := true
        unspecified := s.carrier.unspecified || Sys2Proof.Claims.forbiddenModulo s v }

/-- The state after a write of M1 by an instruction of `k` words. -/
abbrev Sys2Proof.Claims.m1Loaded (s t : State) (v : Word10) (cy : Bool) (k : Nat) : Prop :=
  t = { s with m1 := v, cy := cy, carrier := t.carrier, pc := s.nextPc k } ∧
    t.carrier =
      { s.carrier with
        m1Written := true
        unspecified := s.carrier.unspecified || Sys2Proof.Claims.forbiddenModulo s v }

/-- A table read is made: R92 does not refuse it and DP is in mounted program memory (R89). -/
abbrev Sys2Proof.Claims.tableReadable (s : State) : Prop :=
  pagedRefused s = false ∧ mounted s.params.part (dataPointer s) = true

/-- Word `k` from PC on is in mounted program memory and the image gives it this value (R82, R84). -/
abbrev Sys2Proof.Claims.wordAt (s : State) (k : Nat) (w : Word10) : Prop :=
  mounted s.params.part (s.nextPc k) = true ∧ s.mem.readRom (s.nextPc k).toNat = some w

/-- A step whose fetch reaches word `k` stops there, by the name of what is missing (R83, R84). -/
abbrev Sys2Proof.Claims.fetchFaults (s : State) (k : Nat) : Prop :=
  (mounted s.params.part (s.nextPc k) = false → step s = .fault .fetchOutsideMounted) ∧
  (mounted s.params.part (s.nextPc k) = true → s.mem.readRom (s.nextPc k).toNat = none →
    step s = .fault .fetchUndefinedWord)

/-- One nibble of an 8-bit register after a nibble write, bit by bit (R65): the other nibble and the bits that
cannot be written are left out by `writable`. -/
abbrev Sys2Proof.Claims.nibbleWritten (lower : Bool) (v : Nibble) (writable old new : Octet) : Prop :=
  ∀ k, k < 8 → new.getLsbD k =
    (writable.getLsbD k &&
      (if decide (k < 4) = lower then v.getLsbD (k % 4) else old.getLsbD k))

/-- The four CALL instructions by page (R119, R120). -/
def Sys2Proof.Claims.callInstr (page : BitVec 2) : Word10 → Instr :=
  if page = 0 then .callPage0 else if page = 1 then .callPage1
  else if page = 2 then .callPage2 else .callPage3

/-- The instruction raises the system reset in this state (R302). -/
def Sys2Proof.Claims.raisesReset (i : Instr) (s : State) : Prop :=
  (∃ d, i = .haltData4 d ∧ (haltListed d = false ∨ haltPrecondition d s = false)) ∨
  (i = .rlzA ∧ s.a = 0) ∨
  (∃ page addr, i = Sys2Proof.Claims.callInstr page addr ∧ s.sp = 1) ∨
  (i = .ret ∧ s.sp = 0)

/-! ## Encoding (30_encoding.md) -/

/-- R121, R127: every well-formed instruction is decoded from its own words, whatever words follow, under either
address layout (R118 leaves it open, log 2). -/
def Obligations.DecodeOfEncode : Prop :=
  ∀ (lay : AddrLayout) (i : Instr) (ws : List Word10), i.wellFormed = true →
    decode lay (encode lay i ++ ws) = .ok (i, ws)

/-- R127: there are no alternative encodings. Words that decode are the encoding of the well-formed
instruction they decode to. -/
def Obligations.EncodeOfDecode : Prop :=
  ∀ (lay : AddrLayout) (ws rest : List Word10) (i : Instr), decode lay ws = .ok (i, rest) →
    i.wellFormed = true ∧ ws = encode lay i ++ rest

/-- R121: words written out from the table decode to the instructions they stand for, one for each family. -/
def Obligations.PrintedWordsDecode : Prop :=
  Sys2Proof.Claims.oneWord 0b1101100101#10 (.anlR0n 5) ∧
  Sys2Proof.Claims.oneWord 0b1111011001#10 .inP11 ∧
  Sys2Proof.Claims.twoWords 0b0011000011#10 0b0010101010#10 (.movRnData8 3 0x5A) ∧
  Sys2Proof.Claims.twoWords 0b0101010001#10 0b0000001000#10 (.jcPage1 0x008) ∧
  Sys2Proof.Claims.oneWord 0b0100010010#10 .ret ∧
  Sys2Proof.Claims.twoWords 0b0011011111#10 0b1100001100#10 (.movTData10 0x232) ∧
  Sys2Proof.Claims.twoWords 0b0001010001#10 0b0000000101#10 (.haltData4 5)

/-- R115 to R118: where each bit of an operand word goes, in both address layouts. -/
def Obligations.OperandWordLayouts : Prop :=
  ∀ (w : Word10) (d : Octet),
    (∀ lay ws, decode lay (0b1111110001#10 :: w :: ws) =
      if w.toNat < 16 then .ok (.movAData4 (BitVec.ofNat 4 w.toNat), ws) else .error .operandBits) ∧
    (∀ k, k < 4 → (data8Of w).getLsbD k = w.getLsbD k ∧ (data8Of w).getLsbD (k + 4) = w.getLsbD (k + 5) ∧
      (data10Of w).getLsbD (k + 2) = w.getLsbD k ∧ (data10Of w).getLsbD (k + 6) = w.getLsbD (k + 5) ∧
      (addrOf .split w).getLsbD k = w.getLsbD k ∧
      (addrOf .split w).getLsbD (k + 4) = w.getLsbD (k + 5)) ∧
    (data10Of w).getLsbD 0 = w.getLsbD 4 ∧ (data10Of w).getLsbD 1 = w.getLsbD 9 ∧
    (addrOf .split w).getLsbD 8 = w.getLsbD 4 ∧ (addrOf .split w).getLsbD 9 = w.getLsbD 9 ∧
    addrOf .straight w = w ∧ data8Of (data8Word d) = d

/-- R125: what the decoder refuses: the opcodes 1001, 1011 and 1100, the ports 2, 5 and 6, `MOV R0,@R0`,
`STTS R1n`, a CALL prefix without a JMP word; and 310 first words are defined in all (R121). -/
def Obligations.UndefinedWordsRefused : Prop :=
  (∀ w : Word10, w.extractLsb' 6 4 ∈ [0b1001#4, 0b1011#4, 0b1100#4] → decodeFirst w = none) ∧
  (∀ w : Word10, w.extractLsb' 0 5 ∈ [0b11010#5, 0b11101#5, 0b11110#5] → decodeFirst w = none) ∧
  (∀ n : Nibble, decodeFirst (0b000100#6 ++ n) = none) ∧
  decodeFirst 0b0011100000#10 = none ∧
  (∀ lay w1 ws, w1 ∉ [0b0100010001#10, 0b0100110001#10, 0b0100010100#10, 0b0100110100#10] →
    decode lay (0b0011010010#10 :: w1 :: ws) = .error .callPrefix) ∧
  (∀ lay w0 ws, decodeFirst w0 = none → decode lay (w0 :: ws) = .error .undefinedWord) ∧
  ((List.range 1024).filter fun k => (decodeFirst (BitVec.ofNat 10 k)).isSome).length = 310

/-- R111: the assembler's 16-bit form is a word's own, no other 16-bit number has a word, and ANL A,@R0H is
FAF0H. -/
def Obligations.AssemblerForm : Prop :=
  (∀ w, ofAsm16 (asm16 w) = some w) ∧ (∀ h w, ofAsm16 h = some w → asm16 w = h) ∧
  asm16 0b1101010000#10 = 0xFAF0#16

/-! ## The step -/

/-- R86, R127: where the words of a well-formed instruction stand in mounted program memory at PC, the fetch
answers that instruction. -/
def Obligations.FetchReadsEncoding : Prop :=
  ∀ (s : State) (i : Instr), i.wellFormed = true →
    (∀ k w, (encode s.params.layout i)[k]? = some w →
      mounted s.params.part (s.nextPc k) = true ∧ s.mem.readRom (s.nextPc k).toNat = some w) →
    fetchInstr s = .ok i

/-- R96, R320, R321: in RUN, with the supply normal, a step is the fetched instruction's effect on the sampled
state, then one count event per machine cycle, none after a timer write. The environment sample (log 15), the
index of the free values (log 8) and the note of a STOP release (log 23) are the model's own. -/
def Obligations.StepRunsDecoded : Prop :=
  ∀ (s : State) (i : Instr), s.mode = .run → (sample s).env.supply = .normal →
    fetchInstr (sample s) = .ok i → (s.afterStop = true → i = .nop) →
    step s =
      match exec i { sample s with afterStop := false } with
      | .next t =>
        .next
          { (if i = .movT0A ∨ i = .movT1A ∨ (∃ d, i = .movTData10 d) ∨ i = .movTTab then t
             else if instrWords i = 3 then tick (tick t) else tick t) with free := t.free + 1 }
      | .fault r => .fault r
      | .refused r => .refused r

/-- R83, R84, R112, R120, R125, R126, R280: when a step stops at the fetch of the first, second or third word, and
when at the decoding, by which name; and that after an actual STOP mode release a first instruction that is not
NOP is refused. -/
def Obligations.FetchStops : Prop :=
  ∀ s : State, s.mode = .run → (sample s).env.supply = .normal →
    Sys2Proof.Claims.fetchFaults s 0 ∧
    (∀ w form, Sys2Proof.Claims.wordAt s 0 w → decodeFirst w = some form → 2 ≤ formWords form →
      Sys2Proof.Claims.fetchFaults s 1) ∧
    (∀ w v, Sys2Proof.Claims.wordAt s 0 0b0011010010#10 → Sys2Proof.Claims.wordAt s 1 w →
      Sys2Proof.Claims.fetchFaults s 2 ∧
      (w ∉ [0b0100010001#10, 0b0100110001#10, 0b0100010100#10, 0b0100110100#10] →
        Sys2Proof.Claims.wordAt s 2 v → step s = .refused .callPrefix)) ∧
    (∀ w, Sys2Proof.Claims.wordAt s 0 w → decodeFirst w = none → step s = .refused .undefinedInstruction) ∧
    (∀ w v, Sys2Proof.Claims.wordAt s 0 w → Sys2Proof.Claims.wordAt s 1 v →
      (w ∈ [0b1111110001#10, 0b1101110001#10, 0b1110110001#10, 0b1010110001#10, 0b0001010001#10,
          0b0001110001#10] → 16 ≤ v.toNat → step s = .refused .operandBits) ∧
      (w.extractLsb' 4 6 = 0b001100#6 ∨
          w ∈ [0b0011011000#10, 0b0011011001#10, 0b0011011011#10, 0b0011011100#10] →
        (v.getLsbD 9 || v.getLsbD 4) = true → step s = .refused .operandBits)) ∧
    (∀ i, s.afterStop = true → fetchInstr (sample s) = .ok i → i ≠ .nop →
      step s = .refused .notNopAfterStop)

/-- Log 28, the model's choice: the state that `withFetchWord` makes runs exactly the decoded instruction next. -/
def Obligations.PlacedInstructionRuns : Prop :=
  ∀ (s : State) (nbits w : Nat) (i : Instr), s.params.layout = .split →
    s.pc.toNat + 2 < romSteps s.params.part → decodeTableWord nbits w = some i →
    fetchInstr (s.withFetchWord nbits w) = .ok i ∧
    step (s.withFetchWord nbits w) =
      match exec i (s.withFetchWord nbits w) with
      | .next t => .next (endCycles i t)
      | .fault r => .fault r
      | .refused r => .refused r

/-! ## Accumulator instructions (40_accumulator.md) -/

/-- R141, R144, R147: ANL, ORL, XRL with R0n and R1n: encoding, one cycle, A, CY, and nothing else but PC and,
for n = F, the upper ASR bits, which are left open (R26, log 10). Where R92 refuses the cell: `RefusedUses`. -/
def Obligations.LogicWithCell : Prop :=
  ∀ n : Nibble,
    Sys2Proof.Claims.oneWord (0b110110#6 ++ n) (.anlR0n n) ∧
    Sys2Proof.Claims.oneWord (0b110100#6 ++ n) (.anlR1n n) ∧
    Sys2Proof.Claims.oneWord (0b111010#6 ++ n) (.orlR0n n) ∧
    Sys2Proof.Claims.oneWord (0b111000#6 ++ n) (.orlR1n n) ∧
    Sys2Proof.Claims.oneWord (0b101010#6 ++ n) (.xrlR0n n) ∧
    Sys2Proof.Claims.oneWord (0b101000#6 ++ n) (.xrlR1n n) ∧
    (∀ i ∈ [Instr.anlR0n n, .anlR1n n, .orlR0n n, .orlR1n n, .xrlR0n n, .xrlR1n n], cyclesOf i = 1) ∧
    ∀ s : State, cellRefused n s = false →
      Sys2Proof.Claims.cellToA (.anlR0n n) n s (s.a &&& readCell 0 n s)
        (s.a.getLsbD 3 && (readCell 0 n s).getLsbD 3) ∧
      Sys2Proof.Claims.cellToA (.anlR1n n) n s (s.a &&& readCell 1 n s)
        (s.a.getLsbD 3 && (readCell 1 n s).getLsbD 3) ∧
      Sys2Proof.Claims.cellToA (.orlR0n n) n s (s.a ||| readCell 0 n s) false ∧
      Sys2Proof.Claims.cellToA (.orlR1n n) n s (s.a ||| readCell 1 n s) false ∧
      Sys2Proof.Claims.cellToA (.xrlR0n n) n s (s.a ^^^ readCell 0 n s)
        (s.a.getLsbD 3 && (readCell 0 n s).getLsbD 3) ∧
      Sys2Proof.Claims.cellToA (.xrlR1n n) n s (s.a ^^^ readCell 1 n s)
        (s.a.getLsbD 3 && (readCell 1 n s).getLsbD 3)

/-- R142, R145, R148: ANL, ORL, XRL with @R0H (bits 8 to 5 of the table word) and @R0L (bits 3 to 0): encoding,
one cycle, A, CY and PC, nothing else. Where the read is refused (R89, R92): `RefusedUses`. -/
def Obligations.LogicWithTable : Prop :=
  Sys2Proof.Claims.oneWord 0b1101010000#10 .anlTabH ∧ Sys2Proof.Claims.oneWord 0b1101110000#10 .anlTabL ∧
  Sys2Proof.Claims.oneWord 0b1110010000#10 .orlTabH ∧ Sys2Proof.Claims.oneWord 0b1110110000#10 .orlTabL ∧
  Sys2Proof.Claims.oneWord 0b1010010000#10 .xrlTabH ∧ Sys2Proof.Claims.oneWord 0b1010110000#10 .xrlTabL ∧
  (∀ i ∈ [Instr.anlTabH, .anlTabL, .orlTabH, .orlTabL, .xrlTabH, .xrlTabL], cyclesOf i = 1) ∧
  ∀ s : State, Sys2Proof.Claims.tableReadable s →
    ∀ h l : Nibble, h = (tableWord s).extractLsb' 5 4 → l = (tableWord s).extractLsb' 0 4 →
      exec .anlTabH s =
        .next { s with a := s.a &&& h, cy := s.a.getLsbD 3 && h.getLsbD 3, pc := s.nextPc 1 } ∧
      exec .anlTabL s =
        .next { s with a := s.a &&& l, cy := s.a.getLsbD 3 && l.getLsbD 3, pc := s.nextPc 1 } ∧
      exec .orlTabH s = .next { s with a := s.a ||| h, cy := false, pc := s.nextPc 1 } ∧
      exec .orlTabL s = .next { s with a := s.a ||| l, cy := false, pc := s.nextPc 1 } ∧
      exec .xrlTabH s =
        .next { s with a := s.a ^^^ h, cy := s.a.getLsbD 3 && h.getLsbD 3, pc := s.nextPc 1 } ∧
      exec .xrlTabL s =
        .next { s with a := s.a ^^^ l, cy := s.a.getLsbD 3 && l.getLsbD 3, pc := s.nextPc 1 }

/-- R143, R146, R149: ANL, ORL, XRL with #data4: encoding, one cycle, A, CY and PC, nothing else. -/
def Obligations.LogicWithImmediate : Prop :=
  ∀ (d : Nibble) (s : State),
    Sys2Proof.Claims.twoWords 0b1101110001#10 (0#6 ++ d) (.anlData4 d) ∧
    Sys2Proof.Claims.twoWords 0b1110110001#10 (0#6 ++ d) (.orlData4 d) ∧
    Sys2Proof.Claims.twoWords 0b1010110001#10 (0#6 ++ d) (.xrlData4 d) ∧
    (∀ i ∈ [Instr.anlData4 d, .orlData4 d, .xrlData4 d], cyclesOf i = 1) ∧
    exec (.anlData4 d) s =
      .next { s with a := s.a &&& d, cy := s.a.getLsbD 3 && d.getLsbD 3, pc := s.nextPc 2 } ∧
    exec (.orlData4 d) s = .next { s with a := s.a ||| d, cy := false, pc := s.nextPc 2 } ∧
    exec (.xrlData4 d) s =
      .next { s with a := s.a ^^^ d, cy := s.a.getLsbD 3 && d.getLsbD 3, pc := s.nextPc 2 }

/-- R150: INC A: encoding, one cycle, the increment modulo 16 with its carry, nothing else but PC. -/
def Obligations.IncrementA : Prop :=
  Sys2Proof.Claims.oneWord 0b1010010011#10 .incA ∧ cyclesOf .incA = 1 ∧
  ∀ s : State, exec .incA s =
    .next { s with
      a := BitVec.ofNat 4 ((s.a.toNat + 1) % 16), cy := decide (s.a = 0xF), pc := s.nextPc 1 }

/-- R151: RL A: encoding, one cycle, the rotate left by one with CY from bit 3, nothing else but PC. -/
def Obligations.RotateA : Prop :=
  Sys2Proof.Claims.oneWord 0b1110010011#10 .rlA ∧ cyclesOf .rlA = 1 ∧
  ∀ s : State, exec .rlA s =
    .next { s with a := s.a.rotateLeft 1, cy := s.a.getLsbD 3, pc := s.nextPc 1 }

/-- R152: RLZ A: as RL when A is not 0, an internal reset when it is. -/
def Obligations.RotateOrResetA : Prop :=
  Sys2Proof.Claims.oneWord 0b1111010011#10 .rlzA ∧ cyclesOf .rlzA = 1 ∧
  ∀ s : State,
    (s.a = 0 → exec .rlzA s = .next (internalReset .rlzZero s) ∧ (internalReset .rlzZero s).pc = 0) ∧
    (s.a ≠ 0 → exec .rlzA s =
      .next { s with a := s.a.rotateLeft 1, cy := s.a.getLsbD 3, pc := s.nextPc 1 })

/-! ## I/O instructions (41_io.md) and port registers (10_state.md) -/

/-- R51, R52, R53, R59, R63, R65: what a read of each port register gives, bit by bit. P1 bit 3 in LED mode is
said outside the boundary cycle of R330 only, where the bit is left open (log 14). -/
def Obligations.PortReadValues : Prop :=
  ∀ s : State,
    (∀ p, portRead 0 p s = (portValue p s).extractLsb' 0 4 ∧ portRead 1 p s = (portValue p s).extractLsb' 4 4) ∧
    (s.p4.getLsbD 1 = true → portValue .p0 s = s.p0Latch) ∧
    (s.p4.getLsbD 1 = false → portValue .p0 s = s.env.pins.kio) ∧
    (∀ k, k < 4 → (portValue .p1 s).getLsbD (k + 4) = s.env.pins.ki.getLsbD k) ∧
    (s.p4.getLsbD 2 = false → (portValue .p1 s).getLsbD 3 = s.env.pins.s1) ∧
    (s.p4.getLsbD 2 = true → (s.t.getLsbD 9 && s.trun && s.t.extractLsb' 0 9 == 0) = false →
      (portValue .p1 s).getLsbD 3 = !(s.t.getLsbD 9 && s.trun)) ∧
    (s.p4.getLsbD 0 = true → (portValue .p1 s).getLsbD 2 = s.env.pins.s0) ∧
    (s.p4.getLsbD 0 = false → (portValue .p1 s).getLsbD 2 = true) ∧
    (portValue .p1 s).getLsbD 1 = s.env.pins.s2 ∧ (portValue .p1 s).getLsbD 0 = true ∧
    (∀ k, 3 ≤ k → k < 8 → (portValue .p3 s).getLsbD k = s.p3.getLsbD k) ∧
    (portValue .p3 s).getLsbD 2 = false ∧
    (s.params.part ≠ .upd69 → (portValue .p3 s).extractLsb' 0 2 = 0) ∧
    (s.params.part = .upd69 → (portValue .p3 s).extractLsb' 0 2 = s.p3.extractLsb' 0 2) ∧
    (∀ k, k < 6 → (portValue .p4 s).getLsbD k = s.p4.getLsbD k) ∧ (portValue .p4 s).extractLsb' 6 2 = 0

/-- R171: IN A,Pmn for the eight port nibbles (`inP00` to `inP14`): encoding, one cycle, A, CY cleared, PC,
nothing else. -/
def Obligations.InPort : Prop :=
  Sys2Proof.Claims.oneWord 0b1111111000#10 .inP00 ∧ Sys2Proof.Claims.oneWord 0b1111111001#10 .inP01 ∧
  Sys2Proof.Claims.oneWord 0b1111111011#10 .inP03 ∧ Sys2Proof.Claims.oneWord 0b1111111100#10 .inP04 ∧
  Sys2Proof.Claims.oneWord 0b1111011000#10 .inP10 ∧ Sys2Proof.Claims.oneWord 0b1111011001#10 .inP11 ∧
  Sys2Proof.Claims.oneWord 0b1111011011#10 .inP13 ∧ Sys2Proof.Claims.oneWord 0b1111011100#10 .inP14 ∧
  ∀ (s : State) (x : Instr × BitVec 1 × Port),
    x ∈ [(Instr.inP00, (0 : BitVec 1), Port.p0), (.inP01, 0, .p1), (.inP03, 0, .p3), (.inP04, 0, .p4),
         (.inP10, 1, .p0), (.inP11, 1, .p1), (.inP13, 1, .p3), (.inP14, 1, .p4)] →
      cyclesOf x.1 = 1 ∧
      exec x.1 s = .next { s with a := portRead x.2.1 x.2.2 s, cy := false, pc := s.nextPc 1 }

/-- R172: OUT Pmn,A for the eight port nibbles (`outP00`, `outP01`, `outP03`, `outP04`, `outP10`, `outP11`,
`outP13`, `outP14`): encoding, one cycle, the nibble of the port's writable storage takes A, the other nibble
stays, fixed bits are 0, P1 takes nothing; no flag, nothing else but PC. -/
def Obligations.OutPort : Prop :=
  ∀ (s : State) (lower : Bool) (p : Port), ∃ t,
    Sys2Proof.Claims.oneWord (Sys2Proof.Claims.portWord 0b0010 lower p) (outInstr lower p) ∧
    cyclesOf (outInstr lower p) = 1 ∧ exec (outInstr lower p) s = .next t ∧
    t = { s with p0Latch := t.p0Latch, p3 := t.p3, p4 := t.p4, pc := s.nextPc 1 } ∧
    (p = .p0 → Sys2Proof.Claims.nibbleWritten lower s.a 0xFF s.p0Latch t.p0Latch) ∧
    (p = .p3 → Sys2Proof.Claims.nibbleWritten lower s.a
      (if s.params.part = .upd69 then 0xFB else 0xF8) s.p3 t.p3) ∧
    (p = .p4 → Sys2Proof.Claims.nibbleWritten lower s.a 0x3F s.p4 t.p4) ∧
    (p ≠ .p0 → t.p0Latch = s.p0Latch) ∧ (p ≠ .p3 → t.p3 = s.p3) ∧ (p ≠ .p4 → t.p4 = s.p4)

/-- R173, R174, R175: ANL, ORL, XRL with each of the eight port nibbles (`anlP00` to `anlP14`, `orlP00` to
`orlP14`, `xrlP00` to `xrlP14`): encoding, one cycle, A, CY, PC, nothing else; the port is not written. -/
def Obligations.LogicWithPort : Prop :=
  ∀ (s : State) (lower : Bool) (p : Port) (x : Nibble),
    x = portRead (if lower then 0 else 1) p s →
      Sys2Proof.Claims.oneWord (Sys2Proof.Claims.portWord 0b1101 lower p) (anlPortInstr lower p) ∧
      Sys2Proof.Claims.oneWord (Sys2Proof.Claims.portWord 0b1110 lower p) (orlPortInstr lower p) ∧
      Sys2Proof.Claims.oneWord (Sys2Proof.Claims.portWord 0b1010 lower p) (xrlPortInstr lower p) ∧
      cyclesOf (anlPortInstr lower p) = 1 ∧ cyclesOf (orlPortInstr lower p) = 1 ∧
      cyclesOf (xrlPortInstr lower p) = 1 ∧
      exec (anlPortInstr lower p) s =
        .next { s with a := s.a &&& x, cy := s.a.getLsbD 3 && x.getLsbD 3, pc := s.nextPc 1 } ∧
      exec (orlPortInstr lower p) s =
        .next { s with a := s.a ||| x, cy := false, pc := s.nextPc 1 } ∧
      exec (xrlPortInstr lower p) s =
        .next { s with a := s.a ^^^ x, cy := s.a.getLsbD 3 && x.getLsbD 3, pc := s.nextPc 1 }

/-- R176: OUT Pn,#data8 for n = 0, 1, 3, 4: encoding, one cycle, both nibbles of the port at once, nothing else
but PC. -/
def Obligations.OutPortImmediate : Prop :=
  ∀ (s : State) (d : Octet),
    Sys2Proof.Claims.twoWords 0b0011011000#10 (data8Word d) (.outP0Data8 d) ∧
    Sys2Proof.Claims.twoWords 0b0011011001#10 (data8Word d) (.outP1Data8 d) ∧
    Sys2Proof.Claims.twoWords 0b0011011011#10 (data8Word d) (.outP3Data8 d) ∧
    Sys2Proof.Claims.twoWords 0b0011011100#10 (data8Word d) (.outP4Data8 d) ∧
    (∀ i ∈ [Instr.outP0Data8 d, .outP1Data8 d, .outP3Data8 d, .outP4Data8 d], cyclesOf i = 1) ∧
    exec (.outP0Data8 d) s = .next { s with p0Latch := d, pc := s.nextPc 2 } ∧
    exec (.outP1Data8 d) s = .next { s with pc := s.nextPc 2 } ∧
    exec (.outP3Data8 d) s =
      .next { s with
        p3 := d &&& (if s.params.part = .upd69 then 0xFB else 0xF8), pc := s.nextPc 2 } ∧
    exec (.outP4Data8 d) s = .next { s with p4 := d &&& 0x3F, pc := s.nextPc 2 }

/-! ## Data transfer instructions (42_data_transfer.md) and data memory (20_memory.md) -/

/-- R191 to R194: MOV A with a cell, a table nibble or immediate data: encoding, one cycle, A, CY cleared, PC,
nothing else but, for n = F, the upper ASR bits (R26, log 10). Where the read is refused: `RefusedUses`. -/
def Obligations.MoveToA : Prop :=
  ∀ (s : State) (n d : Nibble),
    Sys2Proof.Claims.oneWord (0b111110#6 ++ n) (.movAR0n n) ∧
    Sys2Proof.Claims.oneWord (0b111100#6 ++ n) (.movAR1n n) ∧
    Sys2Proof.Claims.oneWord 0b1111010000#10 .movATabH ∧ Sys2Proof.Claims.oneWord 0b1111110000#10 .movATabL ∧
    Sys2Proof.Claims.twoWords 0b1111110001#10 (0#6 ++ d) (.movAData4 d) ∧
    (∀ i ∈ [Instr.movAR0n n, .movAR1n n, .movATabH, .movATabL, .movAData4 d], cyclesOf i = 1) ∧
    (cellRefused n s = false →
      Sys2Proof.Claims.cellToA (.movAR0n n) n s (readCell 0 n s) false ∧
      Sys2Proof.Claims.cellToA (.movAR1n n) n s (readCell 1 n s) false) ∧
    (Sys2Proof.Claims.tableReadable s →
      exec .movATabH s =
        .next { s with a := (tableWord s).extractLsb' 5 4, cy := false, pc := s.nextPc 1 } ∧
      exec .movATabL s =
        .next { s with a := (tableWord s).extractLsb' 0 4, cy := false, pc := s.nextPc 1 }) ∧
    exec (.movAData4 d) s = .next { s with a := d, cy := false, pc := s.nextPc 2 }

/-- R195: MOV R0n,A and MOV R1n,A: encoding, one cycle, the named cell of the selected page takes A; every other
cell and all of program memory stay; nothing else but PC and, for n = F, the upper ASR bits (R26, log 10). -/
def Obligations.StoreA : Prop :=
  ∀ (s : State) (n : Nibble) (m : BitVec 1) (i : Instr),
    (m = 0 ∧ i = .movR0nA n ∨ m = 1 ∧ i = .movR1nA n) → cellRefused n s = false →
    Sys2Proof.Claims.oneWord (0b0010#4 ++ (~~~m ++ (0#1 ++ n))) i ∧ cyclesOf i = 1 ∧
    ∃ t, exec i s = .next t ∧
      t = { s with mem := t.mem, asrHigh := t.asrHigh, pc := s.nextPc 1 } ∧
      (n ≠ 15 → t.asrHigh = s.asrHigh) ∧ readCell m n t = s.a ∧
      (∀ c, c ≠ ramAddr (ramPage s) m n → t.mem.readRam c = s.mem.readRam c) ∧
      (∀ c, t.mem.readRom c = s.mem.readRom c)

/-- R196: MOV Rn,#data8: encoding, one cycle, the pair takes the data, its high nibble in R1n; every other cell
and all of program memory stay; nothing else but PC and, for n = F, the upper ASR bits (R26, log 10). -/
def Obligations.StoreImmediatePair : Prop :=
  ∀ (s : State) (n : Nibble) (d : Octet), cellRefused n s = false →
    Sys2Proof.Claims.twoWords (0b001100#6 ++ n) (data8Word d) (.movRnData8 n d) ∧
    cyclesOf (.movRnData8 n d) = 1 ∧
    ∃ t, exec (.movRnData8 n d) s = .next t ∧
      t = { s with mem := t.mem, asrHigh := t.asrHigh, pc := s.nextPc 2 } ∧
      (n ≠ 15 → t.asrHigh = s.asrHigh) ∧ readCell 1 n t ++ readCell 0 n t = d ∧
      (∀ c, c ≠ ramAddr (ramPage s) 0 n → c ≠ ramAddr (ramPage s) 1 n →
        t.mem.readRam c = s.mem.readRam c) ∧
      (∀ c, t.mem.readRom c = s.mem.readRom c)

/-- R197: MOV Rn,@R0, n = 1 to F: one cycle, the pair takes bits 8 to 5 and 3 to 0 of the table word, DP read
before the write; every other cell and all of program memory stay; nothing else but PC and, for n = F, the
upper ASR bits (R26, log 10). -/
def Obligations.StoreTablePair : Prop :=
  ∀ (s : State) (n : Nibble), n ≠ 0 → Sys2Proof.Claims.tableReadable s →
    Sys2Proof.Claims.oneWord (0b001110#6 ++ n) (.movRnTab n) ∧ cyclesOf (.movRnTab n) = 1 ∧
    ∃ t, exec (.movRnTab n) s = .next t ∧
      t = { s with mem := t.mem, asrHigh := t.asrHigh, pc := s.nextPc 1 } ∧
      (n ≠ 15 → t.asrHigh = s.asrHigh) ∧
      readCell 1 n t = (tableWord s).extractLsb' 5 4 ∧ readCell 0 n t = (tableWord s).extractLsb' 0 4 ∧
      (∀ c, c ≠ ramAddr (ramPage s) 0 n → c ≠ ramAddr (ramPage s) 1 n →
        t.mem.readRam c = s.mem.readRam c) ∧
      (∀ c, t.mem.readRom c = s.mem.readRom c)

/-- R36, R84, R87, R92: the table word is the word of program memory at DP, and DP is P3H, R10, R00: of page 0
where that page is selected or `page0` is set, of the selected page under `paged`. -/
def Obligations.TableWordAtDataPointer : Prop :=
  ∀ s : State,
    (∀ w, s.mem.readRom (dataPointer s).toNat = some w → tableWord s = w) ∧
    (ramPage s = 0 → dataPointer s = s.p3.extractLsb' 4 4 ++ (readCell 1 0 s ++ readCell 0 0 s)) ∧
    (s.params.paged = .paged →
      dataPointer s = s.p3.extractLsb' 4 4 ++ (readCell 1 0 s ++ readCell 0 0 s)) ∧
    (s.params.paged = .page0 → dataPointer s = s.p3.extractLsb' 4 4 ++
      (s.mem.readRam (ramAddr 0 1 0) ++ s.mem.readRam (ramAddr 0 0 0)))

/-- R92 with the default `refuse`, and R89: which uses of R0 and RF on another page than 0 are refused, and that
a table read outside mounted program memory is refused. -/
def Obligations.RefusedUses : Prop :=
  ∀ s : State,
    (s.params.part = .upd69 → s.params.paged = .refuse → s.p3.extractLsb' 0 2 ≠ 0 →
      (∀ i ∈ [Instr.anlTabH, .anlTabL, .orlTabH, .orlTabL, .xrlTabH, .xrlTabL, .movATabH, .movATabL,
          .movTTab, .movM0Tab, .movM1Tab, .ret], exec i s = .refused .pagedR0Rf) ∧
      (∀ n, n ≠ 0 → exec (.movRnTab n) s = .refused .pagedR0Rf) ∧
      (∀ page addr, exec (Sys2Proof.Claims.callInstr page addr) s = .refused .pagedR0Rf) ∧
      (∀ n d, n = 0 ∨ n = 15 →
        ∀ i ∈ [Instr.anlR0n n, .anlR1n n, .orlR0n n, .orlR1n n, .xrlR0n n, .xrlR1n n, .movAR0n n,
          .movAR1n n, .movR0nA n, .movR1nA n, .movRnData8 n d, .sttsR0n n],
          exec i s = .refused .pagedR0Rf)) ∧
    (pagedRefused s = false → mounted s.params.part (dataPointer s) = false →
      (∀ n, n ≠ 0 → exec (.movRnTab n) s = .refused .tableOutsideMounted) ∧
      ∀ i ∈ [Instr.anlTabH, .anlTabL, .orlTabH, .orlTabL, .xrlTabH, .xrlTabL, .movATabH, .movATabL,
          .movTTab, .movM0Tab, .movM1Tab], exec i s = .refused .tableOutsideMounted)

/-! ## Branch instructions (43_branch.md) -/

/-- R119, R210 to R217: the first word of each jump; each jump on a part that has the page: to `page || addr` if
its condition holds, else to the word after its addr word; no flag, no register but PC. One cycle either way.
The pages each part has; a jump into a page the part lacks is refused (R125 c, log 22). Both address layouts
(log 2). JC and JNC run on a CY without a determined value too (log 12), JF and JNF on such an F (log 13). -/
def Obligations.Jumps : Prop :=
  Sys2Proof.Claims.jumpWords 0b0100010001#10 .jmpPage0 ∧ Sys2Proof.Claims.jumpWords 0b0100110001#10 .jmpPage1 ∧
  Sys2Proof.Claims.jumpWords 0b0100010100#10 .jmpPage2 ∧ Sys2Proof.Claims.jumpWords 0b0100110100#10 .jmpPage3 ∧
  Sys2Proof.Claims.jumpWords 0b0110010001#10 .jcPage0 ∧ Sys2Proof.Claims.jumpWords 0b0101010001#10 .jcPage1 ∧
  Sys2Proof.Claims.jumpWords 0b0110010100#10 .jcPage2 ∧ Sys2Proof.Claims.jumpWords 0b0101010100#10 .jcPage3 ∧
  Sys2Proof.Claims.jumpWords 0b0110110001#10 .jncPage0 ∧ Sys2Proof.Claims.jumpWords 0b0101110001#10 .jncPage1 ∧
  Sys2Proof.Claims.jumpWords 0b0110110100#10 .jncPage2 ∧ Sys2Proof.Claims.jumpWords 0b0101110100#10 .jncPage3 ∧
  Sys2Proof.Claims.jumpWords 0b0111010001#10 .jfPage0 ∧ Sys2Proof.Claims.jumpWords 0b1000010001#10 .jfPage1 ∧
  Sys2Proof.Claims.jumpWords 0b0111010100#10 .jfPage2 ∧ Sys2Proof.Claims.jumpWords 0b1000010100#10 .jfPage3 ∧
  Sys2Proof.Claims.jumpWords 0b0111110001#10 .jnfPage0 ∧ Sys2Proof.Claims.jumpWords 0b1000110001#10 .jnfPage1 ∧
  Sys2Proof.Claims.jumpWords 0b0111110100#10 .jnfPage2 ∧ Sys2Proof.Claims.jumpWords 0b1000110100#10 .jnfPage3 ∧
  (∀ page : BitVec 2,
    (hasPage .upd67 page = true ↔ page = 0) ∧ (hasPage .upd67A page = true ↔ page = 0) ∧
    (hasPage .upd68 page = true ↔ page = 0 ∨ page = 1) ∧
    (hasPage .upd68A page = true ↔ page = 0 ∨ page = 1) ∧ hasPage .upd69 page = true) ∧
  ∀ (s : State) (addr : Word10) (x : BitVec 2 × Instr × Instr × Instr × Instr × Instr),
    x ∈ [((0 : BitVec 2), Instr.jmpPage0 addr, Instr.jcPage0 addr, Instr.jncPage0 addr,
            Instr.jfPage0 addr, Instr.jnfPage0 addr),
         (1, .jmpPage1 addr, .jcPage1 addr, .jncPage1 addr, .jfPage1 addr, .jnfPage1 addr),
         (2, .jmpPage2 addr, .jcPage2 addr, .jncPage2 addr, .jfPage2 addr, .jnfPage2 addr),
         (3, .jmpPage3 addr, .jcPage3 addr, .jncPage3 addr, .jfPage3 addr, .jnfPage3 addr)] →
    (∀ i ∈ [x.2.1, x.2.2.1, x.2.2.2.1, x.2.2.2.2.1, x.2.2.2.2.2], cyclesOf i = 1) ∧
    (hasPage s.params.part x.1 = true →
      exec x.2.1 s = .next { s with pc := x.1 ++ addr } ∧
      exec x.2.2.1 s = .next { s with pc := if s.cy then x.1 ++ addr else s.nextPc 2 } ∧
      exec x.2.2.2.1 s = .next { s with pc := if s.cy then s.nextPc 2 else x.1 ++ addr } ∧
      exec x.2.2.2.2.1 s = .next { s with pc := if s.f then x.1 ++ addr else s.nextPc 2 } ∧
      exec x.2.2.2.2.2 s = .next { s with pc := if s.f then s.nextPc 2 else x.1 ++ addr }) ∧
    (hasPage s.params.part x.1 = false →
      ∀ i ∈ [x.2.1, x.2.2.1, x.2.2.2.1, x.2.2.2.2.1, x.2.2.2.2.2],
        exec i s = .refused .pageNotOnPart)

/-! ## Subroutine instructions (44_subroutine.md) -/

/-- R231: CALL with SP = 0: SP, all bits of ASR (so RF), PC; every cell but R0F and R1F, all of program memory
and every other register stay. Three words, two cycles. With SP = 1 it is an internal reset; on a part without
the page it is refused. -/
def Obligations.CallSavesAddress : Prop :=
  ∀ (s : State) (page : BitVec 2) (addr : Word10),
    cyclesOf (Sys2Proof.Claims.callInstr page addr) = 2 ∧
    instrWords (Sys2Proof.Claims.callInstr page addr) = 3 ∧
    (hasPage s.params.part page = false →
      exec (Sys2Proof.Claims.callInstr page addr) s = .refused .pageNotOnPart) ∧
    (hasPage s.params.part page = true → pagedRefused s = false →
      (s.sp = 1 →
        exec (Sys2Proof.Claims.callInstr page addr) s = .next (internalReset .spOverflow s)) ∧
      (s.sp = 0 → ∃ t, exec (Sys2Proof.Claims.callInstr page addr) s = .next t ∧
        t = { s with sp := 1, pc := page ++ addr, asrHigh := t.asrHigh, mem := t.mem } ∧
        asrValue t = s.nextPc 3 ∧
        (∀ c, c ≠ ramAddr (r0RfPage s) 0 15 → c ≠ ramAddr (r0RfPage s) 1 15 →
          t.mem.readRam c = s.mem.readRam c) ∧
        (∀ c, t.mem.readRom c = s.mem.readRom c)))

/-- R232: RET with SP = 1: PC from ASR, SP 0, ASR and everything else stay. With SP = 0 it is an internal reset.
Upper ASR bits that an access to RF made undefined are free values, and RET runs on them where R232 has the model
fault: the model's choice (log 10). -/
def Obligations.ReturnRestoresAddress : Prop :=
  Sys2Proof.Claims.oneWord 0b0100010010#10 .ret ∧ cyclesOf .ret = 1 ∧
  ∀ s : State, pagedRefused s = false →
    (s.sp = 0 → exec .ret s = .next (internalReset .spUnderflow s)) ∧
    (s.sp = 1 → exec .ret s =
      .next { s with pc := truncAddr s.params.part (asrValue s), sp := 0 })

/-- R233: after a CALL, a RET from any state that still holds the CALL's ASR and SP resumes at the word after
the CALL, whatever the subroutine did to the rest, and changes only PC and SP. -/
def Obligations.CallThenReturn : Prop :=
  ∀ (s t u : State) (page : BitVec 2) (addr : Word10), s.sp = 0 →
    exec (Sys2Proof.Claims.callInstr page addr) s = .next t →
    u.params = t.params → u.sp = t.sp → u.asrHigh = t.asrHigh → r0RfPage u = r0RfPage t →
    (∀ m, u.mem.readRam (ramAddr (r0RfPage t) m 15) = t.mem.readRam (ramAddr (r0RfPage t) m 15)) →
    pagedRefused u = false →
    exec .ret u = .next { u with pc := s.nextPc 3, sp := 0 }

/-! ## Timer operation instructions (45_timer_ops.md) -/

/-- R241, R242, R243, R42: MOV A with a nibble of T, M0 or M1: A, CY cleared, PC, nothing else; M0 bit 9 reads 0. -/
def Obligations.ReadTimerNibbles : Prop :=
  Sys2Proof.Claims.oneWord 0b1111111111#10 .movAT0 ∧ Sys2Proof.Claims.oneWord 0b1111011111#10 .movAT1 ∧
  Sys2Proof.Claims.oneWord 0b1111110110#10 .movAM00 ∧ Sys2Proof.Claims.oneWord 0b1111010110#10 .movAM01 ∧
  Sys2Proof.Claims.oneWord 0b1111110111#10 .movAM10 ∧ Sys2Proof.Claims.oneWord 0b1111010111#10 .movAM11 ∧
  (∀ i ∈ [Instr.movAT0, .movAT1, .movAM00, .movAM01, .movAM10, .movAM11], cyclesOf i = 1) ∧
  ∀ s : State,
    exec .movAT0 s = .next { s with a := s.t.extractLsb' 2 4, cy := false, pc := s.nextPc 1 } ∧
    exec .movAT1 s = .next { s with a := s.t.extractLsb' 6 4, cy := false, pc := s.nextPc 1 } ∧
    exec .movAM00 s = .next { s with a := s.m0.extractLsb' 2 4, cy := false, pc := s.nextPc 1 } ∧
    exec .movAM01 s =
      .next { s with a := s.m0.extractLsb' 6 4 &&& 0x7, cy := false, pc := s.nextPc 1 } ∧
    exec .movAM10 s = .next { s with a := s.m1.extractLsb' 2 4, cy := false, pc := s.nextPc 1 } ∧
    exec .movAM11 s = .next { s with a := s.m1.extractLsb' 6 4, cy := false, pc := s.nextPc 1 }

/-- R244: MOV T0,A writes t5..t2 and clears t0, MOV T1,A writes t9..t6 and clears t1; the timer starts; nothing
else but PC and the carrier generator, where the end of a high phase and the start of the counter are the model's
choice (log 25) as its notes are (log 26). -/
def Obligations.WriteTimerNibbles : Prop :=
  Sys2Proof.Claims.oneWord 0b0010111111#10 .movT0A ∧ Sys2Proof.Claims.oneWord 0b0010011111#10 .movT1A ∧
  cyclesOf .movT0A = 1 ∧ cyclesOf .movT1A = 1 ∧
  ∀ s : State,
    (∃ t, exec .movT0A s = .next t ∧
      Sys2Proof.Claims.timerStarted s t ((s.t &&& 0x3C2) ||| (s.a.zeroExtend 10 <<< 2)) 1) ∧
    (∃ t, exec .movT1A s = .next t ∧
      Sys2Proof.Claims.timerStarted s t ((s.t &&& 0x03D) ||| (s.a.zeroExtend 10 <<< 6)) 1)

/-- R245, R246, R252: encoding, one cycle, a nibble of M0 or M1 from A, with t0 or t1 cleared and M0 bit 9 kept at
0; CY holds no determined value after it (log 12); nothing else but PC and the carrier generator's notes (R328,
log 26). -/
def Obligations.WriteModuloNibbles : Prop :=
  Sys2Proof.Claims.oneWord 0b0010110110#10 .movM00A ∧ Sys2Proof.Claims.oneWord 0b0010010110#10 .movM01A ∧
  Sys2Proof.Claims.oneWord 0b0010110111#10 .movM10A ∧ Sys2Proof.Claims.oneWord 0b0010010111#10 .movM11A ∧
  (∀ i ∈ [Instr.movM00A, .movM01A, .movM10A, .movM11A], cyclesOf i = 1) ∧
  ∀ s : State,
    (∃ t, exec .movM00A s = .next t ∧
      Sys2Proof.Claims.m0Loaded s t ((s.m0 &&& 0x3C2) ||| (s.a.zeroExtend 10 <<< 2)) t.cy 1) ∧
    (∃ t, exec .movM01A s = .next t ∧
      Sys2Proof.Claims.m0Loaded s t ((s.m0 &&& 0x03D) ||| (s.a.zeroExtend 10 <<< 6)) t.cy 1) ∧
    (∃ t, exec .movM10A s = .next t ∧
      Sys2Proof.Claims.m1Loaded s t ((s.m1 &&& 0x3C2) ||| (s.a.zeroExtend 10 <<< 2)) t.cy 1) ∧
    (∃ t, exec .movM11A s = .next t ∧
      Sys2Proof.Claims.m1Loaded s t ((s.m1 &&& 0x03D) ||| (s.a.zeroExtend 10 <<< 6)) t.cy 1)

/-- R247, R248, R249: MOV T, M0 and M1 with #data10: the register takes the ten bits (M0 without bit 9), the timer
starts on T; no flag, nothing else but PC and the carrier generator (R322, R328, log 26), where a write of T ends a
high phase at once and starts the counter at M0[8:0]: the model's choice (log 25). -/
def Obligations.LoadTimerImmediate : Prop :=
  ∀ (s : State) (d : Word10),
    Sys2Proof.Claims.twoWords 0b0011011111#10 (data10Word d) (.movTData10 d) ∧
    Sys2Proof.Claims.twoWords 0b0011010110#10 (data10Word d) (.movM0Data10 d) ∧
    Sys2Proof.Claims.twoWords 0b0011010111#10 (data10Word d) (.movM1Data10 d) ∧
    (∀ i ∈ [Instr.movTData10 d, .movM0Data10 d, .movM1Data10 d], cyclesOf i = 1) ∧
    (∃ t, exec (.movTData10 d) s = .next t ∧ Sys2Proof.Claims.timerStarted s t d 2) ∧
    (∃ t, exec (.movM0Data10 d) s = .next t ∧ Sys2Proof.Claims.m0Loaded s t d s.cy 2) ∧
    (∃ t, exec (.movM1Data10 d) s = .next t ∧ Sys2Proof.Claims.m1Loaded s t d s.cy 2)

/-- R250, R251, R253: MOV T, M0 and M1 with @R0: the register takes the table word in the data10 layout; no flag,
nothing else but PC and the carrier generator (R322, R328, log 26), where a write of T ends a high phase at once and
starts the counter at M0[8:0]: the model's choice (log 25). -/
def Obligations.LoadTimerTable : Prop :=
  Sys2Proof.Claims.oneWord 0b0011111111#10 .movTTab ∧ Sys2Proof.Claims.oneWord 0b0011110110#10 .movM0Tab ∧
  Sys2Proof.Claims.oneWord 0b0011110111#10 .movM1Tab ∧
  (∀ i ∈ [Instr.movTTab, .movM0Tab, .movM1Tab], cyclesOf i = 1) ∧
  ∀ s : State, Sys2Proof.Claims.tableReadable s →
    (∃ t, exec .movTTab s = .next t ∧ Sys2Proof.Claims.timerStarted s t (data10Of (tableWord s)) 1) ∧
    (∃ t, exec .movM0Tab s = .next t ∧ Sys2Proof.Claims.m0Loaded s t (data10Of (tableWord s)) s.cy 1) ∧
    (∃ t, exec .movM1Tab s = .next t ∧ Sys2Proof.Claims.m1Loaded s t (data10Of (tableWord s)) s.cy 1)

/-! ## Other instructions (46_others.md) -/

/-- R271: NOP changes PC alone; one word, one cycle. -/
def Obligations.NopOnlyAdvances : Prop :=
  Sys2Proof.Claims.oneWord 0b0000000000#10 .nop ∧ cyclesOf .nop = 1 ∧
  ∀ s : State, exec .nop s = .next { s with pc := s.nextPc 1 }

/-- R282: SCAF by its table: A keeps its run of 1 bits from bit 0, CY says whether A was FH. -/
def Obligations.ScafTable : Prop :=
  Sys2Proof.Claims.oneWord 0b1101010011#10 .scaf ∧ cyclesOf .scaf = 1 ∧
  ∀ s : State, ∃ t, exec .scaf s = .next t ∧
    t = { s with a := t.a, cy := decide (s.a = 0xF), pc := s.nextPc 1 } ∧
    (s.a.extractLsb' 0 1 = 0b0#1 → t.a = 0b0000) ∧ (s.a.extractLsb' 0 2 = 0b01#2 → t.a = 0b0001) ∧
    (s.a.extractLsb' 0 3 = 0b011#3 → t.a = 0b0011) ∧ (s.a = 0b0111 → t.a = 0b0111) ∧
    (s.a = 0b1111 → t.a = 0b1111)

/-- R272, R273, R275: the condition of an operand by its b2 b1 b0, with the S pins that P4 configures added by b3;
for HALT b3 adds nothing to the timer condition. That other S pins do not count and that each of STTS and HALT
follows its own table are the spec's decisions D12 and D27 (log 29). -/
def Obligations.StatusCondition : Prop :=
  ∀ (s : State) (d : Nibble) (ki st : Bool),
    ki = (s.env.pins.ki.getLsbD 0 || s.env.pins.ki.getLsbD 1 || s.env.pins.ki.getLsbD 2 ||
      s.env.pins.ki.getLsbD 3) →
    st = ((s.p4.getLsbD 0 && s.env.pins.s0) || (!s.p4.getLsbD 2 && s.env.pins.s1) ||
      (s.p4.getLsbD 3 && s.env.pins.s2)) →
    (d.extractLsb' 0 3 ∈ [0b000#3, 0b011#3, 0b110#3] →
      statusCond d s = some (ki || (d.getLsbD 3 && st)) ∧ relCond d s = (ki || (d.getLsbD 3 && st))) ∧
    (d.extractLsb' 0 3 = 0b101#3 →
      statusCond d s = some (s.t.extractLsb' 0 9 == 0 || (d.getLsbD 3 && st)) ∧
      relCond d s = (s.t.extractLsb' 0 9 == 0)) ∧
    (d.extractLsb' 0 3 ∈ [0b001#3, 0b010#3, 0b100#3, 0b111#3] → statusCond d s = none)

/-- R273, R274, R281: both STTS forms write F and PC alone (and, for n = F, the upper ASR bits): F says whether
the condition holds (the table of STTS, D27, log 29), and is left open for an operand outside the table (log 13).
Encoding, one cycle. -/
def Obligations.SttsWritesF : Prop :=
  ∀ (s : State) (n d : Nibble),
    Sys2Proof.Claims.twoWords 0b0001110001#10 (0#6 ++ d) (.sttsData4 d) ∧
    Sys2Proof.Claims.oneWord (0b000110#6 ++ n) (.sttsR0n n) ∧
    cyclesOf (.sttsData4 d) = 1 ∧ cyclesOf (.sttsR0n n) = 1 ∧
    (∃ t, exec (.sttsData4 d) s = .next t ∧ t = { s with f := t.f, pc := s.nextPc 2 } ∧
      ∀ b, statusCond d s = some b → t.f = b) ∧
    (cellRefused n s = false →
      ∃ t, exec (.sttsR0n n) s = .next t ∧
        t = { s with f := t.f, asrHigh := t.asrHigh, pc := s.nextPc 1 } ∧
        (n ≠ 15 → t.asrHigh = s.asrHigh) ∧ ∀ b, statusCond (readCell 0 n s) s = some b → t.f = b)

/-- R275 to R278, R340, R341: HALT by cases: reset on an illegal operand or a precondition that does not hold;
F set when the release condition holds; F cleared when it was 1; else HALT mode or, with the timer cleared,
STOP mode. Nothing else but PC. Encoding, one cycle. The reset checks come first whatever F is by the spec's decision
D10 (log 29); that the carrier generator rests at counter 0 in STOP mode is the model's choice (log 25). -/
def Obligations.HaltCases : Prop :=
  (∀ d, Sys2Proof.Claims.twoWords 0b0001010001#10 (0#6 ++ d) (.haltData4 d) ∧ cyclesOf (.haltData4 d) = 1) ∧
  ∀ (s : State) (d : Nibble) (ok : Bool),
    ok = (d.extractLsb' 0 3 == 0b101#3 ||
      ((d.extractLsb' 0 3 == 0b000#3 || d.extractLsb' 0 3 == 0b011#3) && s.p4.getLsbD 1 && s.p0Latch == 0xFF) ||
      (d.extractLsb' 0 3 == 0b110#3 && s.p4.getLsbD 1 && s.p0Latch.getLsbD 0)) →
    (ok = false → exec (.haltData4 d) s = .next (internalReset .haltIllegal s)) ∧
    (ok = true → relCond d s = true →
      exec (.haltData4 d) s = .next { s with f := true, pc := s.nextPc 2 }) ∧
    (ok = true → relCond d s = false → s.f = true →
      exec (.haltData4 d) s = .next { s with f := false, pc := s.nextPc 2 }) ∧
    (ok = true → relCond d s = false → s.f = false → d.extractLsb' 0 3 = 0b101#3 →
      exec (.haltData4 d) s = .next { s with mode := .halt d, pc := s.nextPc 2 }) ∧
    (ok = true → relCond d s = false → s.f = false → d.extractLsb' 0 3 ≠ 0b101#3 →
      exec (.haltData4 d) s =
        .next { s with
          mode := .stop d, t := 0, trun := false,
          carrier := { s.carrier with count := 0, high := false }, pc := s.nextPc 2 })

/-! ## The reset (60_exceptions.md, 70_reset_and_hazards.md) -/

/-- R71, R303: what every reset leaves: the reset table, R0 of page 0 cleared (R92), the RAM retention flag, the
other cells and the upper ASR bits unchanged but for RF and those bits after a stack overflow, which are left open
(R231, log 11). A, M0 and M1 are left open (log 9). REM is low and specified again, and M0 and M1 count as not written
since the last reset (R326, R328, log 26). The counter of the carrier generator at rest is the model's (log 25), and so
is the wait every cause leads into (log 17). -/
def Obligations.ResetTable : Prop :=
  ∀ (cause : ResetCause) (s t : State), t = internalReset cause s →
    t = { s with
      pc := 0, sp := 0, asrHigh := t.asrHigh, a := t.a, f := false, cy := false, t := 0, trun := false,
      m0 := t.m0, m1 := t.m1
      carrier := { count := 0, high := false, m0Written := false, m1Written := false, unspecified := false }
      p0Latch := 0xFF, p3 := s.p3 &&& 0x08, p4 := 0x26,
      mem := t.mem, mode := .resetWait (cause == .poc), afterStop := false } ∧
    t.m0.getLsbD 9 = false ∧
    t.mem.readRam (ramAddr 0 0 0) = 0 ∧ t.mem.readRam (ramAddr 0 1 0) = 0 ∧
    (∀ c, c ≠ ramAddr 0 0 0 → c ≠ ramAddr 0 1 0 →
      (cause = .spOverflow → c ≠ ramAddr (r0RfPage s) 0 15 ∧ c ≠ ramAddr (r0RfPage s) 1 15) →
      t.mem.readRam c = s.mem.readRam c) ∧
    (cause ≠ .spOverflow → t.asrHigh = s.asrHigh) ∧ (∀ c, t.mem.readRom c = s.mem.readRom c)

/-- R71: the values the reset table gives, in the state after power-on: PC, SP, R0, F, CY, T, TRUN, P0, P3, P4,
the operating state, and what P1 and DP read as. The wait in `mode` is the model's (log 17). -/
def Obligations.ResetStateValues : Prop :=
  State.reset.pc = 0x000 ∧ State.reset.sp = 0 ∧ readCell 0 0 State.reset = 0 ∧
  readCell 1 0 State.reset = 0 ∧ State.reset.f = false ∧ State.reset.cy = false ∧ State.reset.t = 0 ∧
  State.reset.trun = false ∧ State.reset.p0Latch = 0xFF ∧ State.reset.p3 = 0x00 ∧
  State.reset.p4 = 0x26 ∧ dataPointer State.reset = 0x000 ∧ State.reset.mode = .resetWait true ∧
  remOutput State.reset = .low ∧ ledDrive State.reset = some true ∧
  ∀ e : Env, portValue .p1 { State.reset with env := e } =
    e.pins.ki ++ (0b11#2 ++ (BitVec.ofBool e.pins.s2 ++ 1#1))

/-- R350, R351, R346, R71: V_DD at or below V_POC resets the machine from every operating state, R0 of page 0
cleared; below V_ID the RAM retention flag is cleared as well, else it, RAM but R0 and ASR are retained. -/
def Obligations.SupplyResets : Prop :=
  ∀ s : State,
    ((sample s).env.supply = .belowPoc → ∃ t, step s = .next t ∧ t.mode = .resetWait true ∧ t.pc = 0 ∧
      t.p3 = s.p3 &&& 0x08 ∧ t.p4 = 0x26 ∧ t.p0Latch = 0xFF ∧ t.t = 0 ∧ t.trun = false ∧ t.sp = 0 ∧
      t.f = false ∧ t.cy = false ∧ t.asrHigh = s.asrHigh ∧
      t.mem.readRam (ramAddr 0 0 0) = 0 ∧ t.mem.readRam (ramAddr 0 1 0) = 0 ∧
      (∀ c, c ≠ ramAddr 0 0 0 → c ≠ ramAddr 0 1 0 → t.mem.readRam c = s.mem.readRam c)) ∧
    ((sample s).env.supply = .belowVid → ∃ t, step s = .next t ∧ t.mode = .resetWait true ∧ t.pc = 0 ∧
      t.p3 = 0 ∧ t.p4 = 0x26 ∧ t.p0Latch = 0xFF ∧ t.t = 0 ∧ t.trun = false ∧ t.sp = 0 ∧ t.f = false ∧
      t.cy = false ∧ t.mem.readRam (ramAddr 0 0 0) = 0 ∧ t.mem.readRam (ramAddr 0 1 0) = 0) ∧
    ((sample s).env.supply = .dip → step s = .refused .supplyMalfunction)

/-- R350, R352, R372, R374, with the model's choices of logs 15, 17 and 18: in RESET_WAIT, with V_DD above V_POC, a
reset signal that the POC circuit holds is cancelled, and refused if all four K_I pins are high at that moment;
then nothing changes until the oscillator's wait is over, and then MODE = RUN. The wait is over at the latest when
no sample is left. -/
def Obligations.LeavingReset : Prop :=
  ∀ (s : State) (held : Bool), s.mode = .resetWait held → (sample s).env.supply = .normal →
    (held = true → (sample s).env.pins.ki = 0xF → step s = .refused .kiHighAtPocRelease) ∧
    ((held = true → (sample s).env.pins.ki ≠ 0xF) →
      ((sample s).env.oscStable = false → (sample s).inputs ≠ [] →
        step s = .next { sample s with mode := .resetWait false, free := s.free + 1 }) ∧
      ((sample s).env.oscStable = true ∨ (sample s).inputs = [] →
        step s = .next { sample s with mode := .run, free := s.free + 1 }))

/-- R302, R370: while the machine runs, an instruction that completes leads into the reset wait exactly when it is
one of the four causes. -/
def Obligations.OnlyFourInstructionsReset : Prop :=
  ∀ (i : Instr) (s t : State), s.mode = .run → exec i s = .next t →
    ((∃ poc, t.mode = .resetWait poc) ↔ Sys2Proof.Claims.raisesReset i s)

/-! ## The timer and the carrier generator (60_exceptions.md) -/

/-- R321, R324, R326: the count event: down by one, or the end of the timer operation at 0; t9 and everything but the
carrier generator stay; with the clock stopped nothing happens. The generator runs on for the machine cycle while the
output is active, completes a started high phase when it is not, and then rests; a steady output (CARY = 1) ends
with the generator at rest: its counter at rest is the model's choice (log 25). -/
def Obligations.TickCounts : Prop :=
  ∀ s : State,
    (clockRuns s.mode = true →
      (s.t.extractLsb' 0 9 ≠ 0 →
        tick s = { s with t := s.t - 1, carrier := (tick s).carrier } ∧
        (s.t - 1).getLsbD 9 = s.t.getLsbD 9) ∧
      (s.t.extractLsb' 0 9 = 0 → tick s = { s with trun := false, carrier := (tick s).carrier }) ∧
      ((s.t.getLsbD 9 && s.trun) = true → (s.m1.getLsbD 9 && s.t.extractLsb' 0 9 == 0) = false →
        (tick s).carrier =
          carrierCycleActive (s.m0.extractLsb' 0 9) (s.m1.extractLsb' 0 9) s.carrier) ∧
      ((s.t.getLsbD 9 && s.trun) = true → (s.m1.getLsbD 9 && s.t.extractLsb' 0 9 == 0) = true →
        (tick s).carrier = { s.carrier with count := 0, high := false }) ∧
      ((s.t.getLsbD 9 && s.trun) = false → s.carrier.high = false → (tick s).carrier = s.carrier) ∧
      ((s.t.getLsbD 9 && s.trun) = false → s.carrier.high = true → s.carrier.count.toNat < 128 →
        (tick s).carrier = { s.carrier with count := 0, high := false }) ∧
      ((s.t.getLsbD 9 && s.trun) = false → s.carrier.high = true → 128 ≤ s.carrier.count.toNat →
        (tick s).carrier = { s.carrier with count := s.carrier.count - 128 })) ∧
    (clockRuns s.mode = false → tick s = s)

/-- R322: a timer write of the counter value N keeps the timer operating for N + 1 count events and no longer,
with t9 as written throughout. -/
def Obligations.TimerOperatesSetValuePlusOne : Prop :=
  ∀ (s : State) (v : Word10) (k : Nat), clockRuns s.mode = true →
    (ticks k (timerWrite v s)).trun = decide (k ≤ (v.extractLsb' 0 9).toNat) ∧
    (ticks k (timerWrite v s)).t.extractLsb' 0 9 =
      BitVec.ofNat 9 ((v.extractLsb' 0 9).toNat - k) ∧
    (ticks k (timerWrite v s)).t.getLsbD 9 = v.getLsbD 9

/-- R324, with the closed form of log 25: one machine cycle of the carrier generator is 128 carrier clocks, the
low phase lasting M0 + 1 of them and the high phase M1 + 1. -/
def Obligations.CarrierCycleIsClocks : Prop :=
  ∀ (m0 m1 : BitVec 9) (c : Carrier), c.count ≤ (if c.high then m1 else m0) →
    carrierCycleActive m0 m1 c = carrierClocks m0 m1 128 c

/-- R326, R327, R51: REM by the timer output, CARY and the carrier phase, where no rule of R328 was broken (log 26):
a high phase that the carrier has started is completed after the output ended, and followed by the low level; after
a steady output there is none (log 25). The S1/LED output, and the K_I/O pins, which carry the latch in output
mode. -/
def Obligations.OutputPins : Prop :=
  ∀ s : State,
    (s.carrier.unspecified = false →
      ((s.t.getLsbD 9 && s.trun) = true → s.m1.getLsbD 9 = true →
        remOutput s = .high ∧
        (clockRuns s.mode = true → s.t.extractLsb' 0 9 = 0 → remOutput (tick s) = .low)) ∧
      ((s.t.getLsbD 9 && s.trun) = true → s.m1.getLsbD 9 = false →
        remOutput s = .carrier s.carrier.high) ∧
      ((s.t.getLsbD 9 && s.trun) = false → s.carrier.high = false → remOutput s = .low) ∧
      ((s.t.getLsbD 9 && s.trun) = false → s.carrier.high = true →
        remOutput s = .carrier true ∧
        (clockRuns s.mode = true → s.carrier.count.toNat < 128 → remOutput (tick s) = .low) ∧
        (clockRuns s.mode = true → 128 ≤ s.carrier.count.toNat → remOutput (tick s) = .carrier true))) ∧
    (s.p4.getLsbD 1 = true → kioDrive s = some s.p0Latch) ∧ (s.p4.getLsbD 1 = false → kioDrive s = none) ∧
    (s.p4.getLsbD 2 = true → ledDrive s = some (!(s.t.getLsbD 9 && s.trun))) ∧
    (s.p4.getLsbD 2 = false → ledDrive s = none)

/-! ## Standby modes (60_exceptions.md) -/

/-- R342, R343: HALT mode ends by itself after exactly T[8:0] cycles: so many steps wait, each a count event, and
then, at a counter of 0, a step runs the next instruction with F set. The supply stays normal. -/
def Obligations.HaltModeLastsCounterCycles : Prop :=
  ∀ (s : State) (d : Nibble), s.mode = .halt d → haltIsTimer d = true → s.env.supply = .normal →
    (∀ e ∈ s.inputs, e.supply = .normal) →
    (∀ k, k ≤ (timerCount s).toNat → ∃ t, runsTo k s t ∧ t.mode = .halt d ∧
      (timerCount t).toNat = (timerCount s).toNat - k ∧ t.pc = s.pc ∧ t.f = s.f ∧ t.a = s.a ∧
      t.cy = s.cy ∧ t.trun = s.trun ∧ t.mem = s.mem) ∧
    ∃ t, runsTo (timerCount s).toNat s t ∧
      step t = runInstr { sample t with f := true, mode := .run }

/-- R340, R344, R345, with the model's moment of the release (log 16): a step in STOP mode changes nothing while
the release condition is false or the wait is not over; else it sets F and MODE, and the next instruction must
be NOP. A release condition that stays true, the supply staying normal, releases STOP mode after as many steps as
there are samples to come, or fewer. -/
def Obligations.StopModeSteps : Prop :=
  ∀ (s : State) (d : Nibble), s.mode = .stop d →
    ((sample s).env.supply = .normal →
      (relCond d (sample s) = true → (sample s).env.oscStable = true ∨ (sample s).inputs = [] →
        step s =
          .next { sample s with f := true, mode := .run, afterStop := true, free := s.free + 1 }) ∧
      (relCond d (sample s) = false ∨
          ((sample s).env.oscStable = false ∧ (sample s).inputs ≠ []) →
        step s = .next { sample s with free := s.free + 1 })) ∧
    ((∀ e ∈ samplesToCome s, e.supply = .normal ∧ relCond d { s with env := e } = true) →
      ∃ k t, k ≤ (samplesToCome s).length ∧ runsTo k s t ∧ t.mode = .run ∧ t.afterStop = true ∧
        t.f = true ∧ t.pc = s.pc)

/-- R340: the standby modes are entered only by HALT, with F = 0 and the release condition not holding. -/
def Obligations.OnlyHaltEntersStandby : Prop :=
  ∀ (i : Instr) (s t : State) (d : Nibble), s.mode = .run → exec i s = .next t →
    (t.mode = .halt d ∨ t.mode = .stop d) →
    i = .haltData4 d ∧ s.f = false ∧ relCond d s = false

/-! ## Rules over the whole machine -/

/-- R20, R24, R42, R59, R63, R275, R340 to R342, R324: from every state that meets it, a step leads to a state
that meets the invariant: memory in canonical form, PC and ASR within `PC_BITS`, fixed bits 0, a legal operating
state, the carrier counter within its phase. -/
def Obligations.StepKeepsInvariant : Prop :=
  ∀ s t : State, Inv s → step s = .next t → Inv t

/-- The state after reset meets the invariant. -/
def Obligations.ResetMeetsInvariant : Prop := Inv State.reset

/-- R6, R85: no step changes program memory or the launch parameters. -/
def Obligations.ProgramMemoryNeverChanges : Prop :=
  ∀ s t : State, step s = .next t → t.mem.rom = s.mem.rom ∧ t.params = s.params

/-- R34, R270: while the machine runs, an instruction other than STTS and HALT leaves F alone, a reset apart. -/
def Obligations.OnlySttsAndHaltWriteF : Prop :=
  ∀ (i : Instr) (s t : State), s.mode = .run → exec i s = .next t →
    (∀ d, i ≠ .haltData4 d) → (∀ d, i ≠ .sttsData4 d) → (∀ n, i ≠ .sttsR0n n) →
    ¬ Sys2Proof.Claims.raisesReset i s → t.f = s.f

/-- R35: the instructions that leave CY unchanged: moves to data memory, OUT, moves to T, moves of data10 and
table words to M0 and M1, jumps, CALL, RET, HALT, STTS and NOP, a reset apart. -/
def Sys2Proof.Claims.keepsCy : Instr → Bool
  | .movR0nA _ | .movR1nA _ | .movRnData8 _ _ | .movRnTab _ => true
  | .outP00 | .outP01 | .outP03 | .outP04 | .outP10 | .outP11 | .outP13 | .outP14 => true
  | .outP0Data8 _ | .outP1Data8 _ | .outP3Data8 _ | .outP4Data8 _ => true
  | .movT0A | .movT1A | .movTData10 _ | .movM0Data10 _ | .movM1Data10 _ => true
  | .movTTab | .movM0Tab | .movM1Tab => true
  | .jmpPage0 _ | .jmpPage1 _ | .jmpPage2 _ | .jmpPage3 _ => true
  | .jcPage0 _ | .jcPage1 _ | .jcPage2 _ | .jcPage3 _ => true
  | .jncPage0 _ | .jncPage1 _ | .jncPage2 _ | .jncPage3 _ => true
  | .jfPage0 _ | .jfPage1 _ | .jfPage2 _ | .jfPage3 _ => true
  | .jnfPage0 _ | .jnfPage1 _ | .jnfPage2 _ | .jnfPage3 _ => true
  | .callPage0 _ | .callPage1 _ | .callPage2 _ | .callPage3 _ => true
  | .ret | .haltData4 _ | .sttsData4 _ | .sttsR0n _ | .nop => true
  | _ => false

/-- R35: every instruction that the source's list of CY writers does not name leaves CY unchanged. -/
def Obligations.CyKeptOutsideItsList : Prop :=
  ∀ (i : Instr) (s t : State), exec i s = .next t → Sys2Proof.Claims.keepsCy i = true →
    ¬ Sys2Proof.Claims.raisesReset i s → t.cy = s.cy

/-- R21: every instruction but the jumps, CALL and RET leaves PC at the word after its own, a reset apart. -/
def Obligations.PcAdvancesByLength : Prop :=
  ∀ (i : Instr) (s t : State), exec i s = .next t →
    (∀ lay, ∃ w ws, encode lay i = w :: ws ∧ w.extractLsb' 6 4 ∉ [4#4, 5#4, 6#4, 7#4, 8#4] ∧
      w ≠ 0b0011010010#10) →
    ¬ Sys2Proof.Claims.raisesReset i s → t.pc = s.nextPc (instrWords i)

/-- R23, R85, R95: SP is written only by CALL and RET, data memory only by the moves to it and CALL, P0, P3 and P4
only by OUT: every other instruction that completes without a reset leaves them alone. -/
def Obligations.StorageWriters : Prop :=
  ∀ (i : Instr) (s t : State), exec i s = .next t → ¬ Sys2Proof.Claims.raisesReset i s →
    (i ≠ .ret → (∀ page addr, i ≠ Sys2Proof.Claims.callInstr page addr) → t.sp = s.sp) ∧
    ((∀ n, i ≠ .movR0nA n ∧ i ≠ .movR1nA n ∧ i ≠ .movRnTab n) → (∀ n d, i ≠ .movRnData8 n d) →
      (∀ page addr, i ≠ Sys2Proof.Claims.callInstr page addr) → t.mem = s.mem) ∧
    ((∀ lower p, i ≠ outInstr lower p) → (∀ p d, i ≠ outData8Instr p d) →
      t.p0Latch = s.p0Latch ∧ t.p3 = s.p3 ∧ t.p4 = s.p4)
end

