-- ==== Sys2Proof/Laws/Decode.lean ====
section
/-! SUPPORT. The operand words: packing and unpacking undo each other (R115 to R118). -/

namespace Sys2Proof

/-- R116: a data8 word gives back its value. -/
@[simp] theorem data8Of_data8Word (d : Octet) : data8Of (data8Word d) = d := by
  revert d; decide +kernel

/-- R116, R126: the data8 word of a value has the printed zeros. -/
@[simp] theorem data8Clear_data8Word (d : Octet) : data8Clear (data8Word d) = true := by
  revert d; decide +kernel

/-- R116: a word with the printed zeros is the data8 word of its value. -/
theorem data8Word_data8Of (w : Word10) : data8Clear w = true → data8Word (data8Of w) = w := by
  revert w; decide +kernel

/-- R117: a data10 word gives back its value. -/
@[simp] theorem data10Of_data10Word (d : Word10) : data10Of (data10Word d) = d := by
  revert d; decide +kernel

/-- R117: every word is the data10 word of its value. -/
@[simp] theorem data10Word_data10Of (w : Word10) : data10Word (data10Of w) = w := by
  revert w; decide +kernel

/-- R118: an addr word gives back its ten bits, in both layouts. -/
@[simp] theorem addrOf_addrWord (lay : AddrLayout) (a : Word10) : addrOf lay (addrWord lay a) = a := by
  cases lay
  · revert a; decide +kernel
  · rfl

/-- R118: every word is the addr word of its ten bits, in both layouts. -/
@[simp] theorem addrWord_addrOf (lay : AddrLayout) (w : Word10) : addrWord lay (addrOf lay w) = w := by
  cases lay
  · revert w; decide +kernel
  · rfl

/-- R115, R126: the data4 word of a value has the printed zeros. -/
@[simp] theorem data4Clear_append (d : Nibble) : data4Clear (0#6 ++ d) = true := by
  revert d; decide

/-- R115: a data4 word gives back its value. -/
@[simp] theorem data4_append (d : Nibble) : (0#6 ++ d : Word10).extractLsb' 0 4 = d := by
  revert d; decide

end Sys2Proof
end

