-- ==== Sys2Proof/Laws/Memory.lean ====
section
/-! SUPPORT. Read after write, and the canonical form that every memory operation keeps. -/

namespace Sys2Proof.Machine

variable {w : Nat}

/-! ## Read after write -/

theorem cellsGet_put (c : List (Nat × BitVec w)) (a b : Nat) (v : BitVec w) :
    cellsGet (cellsPut c a v) b = if a = b then some v else cellsGet c b := by
  induction c with
  | nil => simp [cellsPut, cellsGet]
  | cons x rest ih =>
    obtain ⟨k, u⟩ := x
    simp only [cellsPut]
    split
    · simp [cellsGet]
    · split
      · subst_vars
        by_cases hb : k = b <;> simp [cellsGet, hb]
      · simp only [cellsGet, ih]
        by_cases hk : k = b
        · subst hk; simp_all
        · simp [hk]

theorem cellsGet_del (c : List (Nat × BitVec w)) (a b : Nat) :
    cellsGet (cellsDel c a) b = if a = b then none else cellsGet c b := by
  induction c with
  | nil => simp [cellsDel, cellsGet]
  | cons x rest ih =>
    obtain ⟨k, u⟩ := x
    simp only [cellsDel]
    split
    · subst_vars
      rw [ih]
      by_cases hb : k = b <;> simp [cellsGet, hb]
    · simp only [cellsGet, ih]
      by_cases hk : k = b
      · subst hk; simp_all [eq_comm]
      · simp [hk]

/-- A data-memory read after a write, at every address. -/
@[simp] theorem readRam_writeRam (m : Memory) (a b : Nat) (v : Nibble) :
    (m.writeRam a v).readRam b = if a = b then v else m.readRam b := by
  unfold Memory.writeRam Memory.readRam
  by_cases hv : v = 0
  · simp only [hv, if_true, cellsGet_del]
    split <;> simp
  · simp only [hv, if_false, cellsGet_put]
    split <;> simp

/-- A program-memory read after a write of the image, at every address. -/
@[simp] theorem readRom_writeRom (m : Memory) (a b : Nat) (v : Word10) :
    (m.writeRom a v).readRom b = if a = b then some v else m.readRom b := cellsGet_put m.rom a b v

@[simp] theorem writeRam_rom (m : Memory) (a : Nat) (v : Nibble) : (m.writeRam a v).rom = m.rom := rfl
@[simp] theorem writeRom_ram (m : Memory) (a : Nat) (v : Word10) : (m.writeRom a v).ram = m.ram := rfl
@[simp] theorem readRom_writeRam (m : Memory) (a b : Nat) (v : Nibble) :
    (m.writeRam a v).readRom b = m.readRom b := rfl
@[simp] theorem readRam_writeRom (m : Memory) (a b : Nat) (v : Word10) :
    (m.writeRom a v).readRam b = m.readRam b := rfl

/-! ## The canonical form -/

theorem mem_cellsPut {c : List (Nat × BitVec w)} {a : Nat} {v : BitVec w} {x : Nat × BitVec w}
    (h : x ∈ cellsPut c a v) : x = (a, v) ∨ x ∈ c := by
  induction c with
  | nil => simpa [cellsPut] using h
  | cons y rest ih =>
    obtain ⟨k, u⟩ := y
    simp only [cellsPut] at h
    split at h
    · simpa using h
    · split at h
      · rcases List.mem_cons.1 h with h | h
        · exact .inl h
        · exact .inr (List.mem_cons_of_mem _ h)
      · rcases List.mem_cons.1 h with h | h
        · exact .inr (by simp [h])
        · rcases ih h with h | h
          · exact .inl h
          · exact .inr (List.mem_cons_of_mem _ h)

theorem mem_cellsDel {c : List (Nat × BitVec w)} {a : Nat} {x : Nat × BitVec w}
    (h : x ∈ cellsDel c a) : x ∈ c := by
  induction c with
  | nil => exact h
  | cons y rest ih =>
    obtain ⟨k, u⟩ := y
    simp only [cellsDel] at h
    split at h
    · exact List.mem_cons_of_mem _ (ih h)
    · rcases List.mem_cons.1 h with h | h
      · simp [h]
      · exact List.mem_cons_of_mem _ (ih h)

theorem cellsPut_rising {c : List (Nat × BitVec w)} (a : Nat) (v : BitVec w)
    (h : c.Pairwise fun x y => x.1 < y.1) : (cellsPut c a v).Pairwise fun x y => x.1 < y.1 := by
  induction c with
  | nil => simp [cellsPut]
  | cons y rest ih =>
    obtain ⟨k, u⟩ := y
    obtain ⟨hy, hrest⟩ := List.pairwise_cons.1 h
    simp only [cellsPut]
    split
    · refine List.pairwise_cons.2 ⟨fun z hz => ?_, h⟩
      rcases List.mem_cons.1 hz with rfl | hz
      · assumption
      · exact Nat.lt_trans ‹_› (hy z hz)
    · split
      · subst_vars
        exact List.pairwise_cons.2 ⟨hy, hrest⟩
      · refine List.pairwise_cons.2 ⟨fun z hz => ?_, ih hrest⟩
        rcases mem_cellsPut hz with rfl | hz
        · show k < a; omega
        · exact hy z hz

theorem cellsDel_rising {c : List (Nat × BitVec w)} (a : Nat)
    (h : c.Pairwise fun x y => x.1 < y.1) : (cellsDel c a).Pairwise fun x y => x.1 < y.1 := by
  induction c with
  | nil => simp [cellsDel]
  | cons y rest ih =>
    obtain ⟨k, u⟩ := y
    obtain ⟨hy, hrest⟩ := List.pairwise_cons.1 h
    simp only [cellsDel]
    split
    · exact ih hrest
    · exact List.pairwise_cons.2 ⟨fun z hz => hy z (mem_cellsDel hz), ih hrest⟩

/-- A data-memory write keeps the canonical form. -/
theorem writeRam_wf {m : Memory} {a : Nat} (v : Nibble) (h : m.wf) (ha : a < ramCells) :
    (m.writeRam a v).wf := by
  obtain ⟨h1, h2, h3, h4⟩ := h
  refine ⟨h1, h2, ?_, fun x hx => ?_⟩
  · unfold Memory.writeRam
    split
    · exact cellsDel_rising a h3
    · exact cellsPut_rising a v h3
  · unfold Memory.writeRam at hx
    split at hx
    · exact h4 x (mem_cellsDel hx)
    · rcases mem_cellsPut hx with rfl | hx
      · exact ⟨ha, ‹_›⟩
      · exact h4 x hx

/-- Placing a word of the mask image keeps the canonical form. -/
theorem writeRom_wf {m : Memory} {a : Nat} (v : Word10) (h : m.wf) (ha : a < 4096) :
    (m.writeRom a v).wf := by
  obtain ⟨h1, h2, h3, h4⟩ := h
  refine ⟨cellsPut_rising a v h1, fun x hx => ?_, h3, h4⟩
  rcases mem_cellsPut hx with rfl | hx
  · exact ha
  · exact h2 x hx

/-- The memory of the state after reset is in canonical form. -/
theorem reset_mem_wf : State.reset.mem.wf := by decide

/-- Every cell number an instruction can name is inside data memory (R91). -/
theorem ramAddr_lt (page : BitVec 2) (m : BitVec 1) (n : Nibble) : ramAddr page m n < ramCells := by
  have := ((page ++ m) ++ n).isLt
  simpa [ramAddr, ramCells] using this

/-- A cell number in figures: page, then column, then number (R91). -/
theorem ramAddr_eq : ∀ (page : BitVec 2) (m : BitVec 1) (n : Nibble),
    ramAddr page m n = 32 * page.toNat + 16 * m.toNat + n.toNat := by
  decide

/-- Cell numbers tell page, column and number apart (R91). -/
theorem ramAddr_inj {p q : BitVec 2} {m l : BitVec 1} {n k : Nibble} :
    ramAddr p m n = ramAddr q l k ↔ p = q ∧ m = l ∧ n = k := by
  constructor
  · intro h
    rw [ramAddr_eq, ramAddr_eq] at h
    have := n.isLt; have := k.isLt; have := m.isLt; have := l.isLt
    refine ⟨BitVec.eq_of_toNat_eq ?_, BitVec.eq_of_toNat_eq ?_, BitVec.eq_of_toNat_eq ?_⟩ <;> omega
  · rintro ⟨rfl, rfl, rfl⟩; rfl

/-- Losing data memory keeps the canonical form. -/
theorem forgetCells_wf (free k : Nat) {m : Memory} (h : m.wf) (hk : k ≤ ramCells) :
    (forgetCells free k m).wf := by
  induction k with
  | zero => exact h
  | succ k ih => exact writeRam_wf _ (ih (by omega)) (by omega)

/-- Losing data memory leaves program memory alone (R85). -/
@[simp] theorem forgetCells_rom (free k : Nat) (m : Memory) : (forgetCells free k m).rom = m.rom := by
  induction k with
  | zero => rfl
  | succ k ih => simpa [forgetCells] using ih

/-- Losing data memory leaves every lost cell at its free value and the others alone. -/
theorem readRam_forgetCells (free k a : Nat) (m : Memory) :
    (forgetCells free k m).readRam a = if a < k then Config.freeRam free a else m.readRam a := by
  induction k with
  | zero => simp [forgetCells]
  | succ k ih =>
    simp only [forgetCells, readRam_writeRam, ih]
    by_cases h : k = a
    · subst h; simp
    · have : (a < k + 1) = (a < k) := by simp; omega
      simp [h, this]

end Sys2Proof.Machine
end

