-- ==== Sys2Proof/Laws/State.lean ====
section
/-! SUPPORT. One lemma per field per named update of the state, so that no proof unfolds a record update. -/

namespace Sys2Proof.Machine

/-! `retire` -/

@[simp] theorem retire_params (k : Nat) (s : State) : (retire k s).params = s.params := rfl
@[simp] theorem retire_pc (k : Nat) (s : State) : (retire k s).pc = s.nextPc k := rfl
@[simp] theorem retire_sp (k : Nat) (s : State) : (retire k s).sp = s.sp := rfl
@[simp] theorem retire_asrHigh (k : Nat) (s : State) : (retire k s).asrHigh = s.asrHigh := rfl
@[simp] theorem retire_a (k : Nat) (s : State) : (retire k s).a = s.a := rfl
@[simp] theorem retire_f (k : Nat) (s : State) : (retire k s).f = s.f := rfl
@[simp] theorem retire_cy (k : Nat) (s : State) : (retire k s).cy = s.cy := rfl
@[simp] theorem retire_t (k : Nat) (s : State) : (retire k s).t = s.t := rfl
@[simp] theorem retire_trun (k : Nat) (s : State) : (retire k s).trun = s.trun := rfl
@[simp] theorem retire_m0 (k : Nat) (s : State) : (retire k s).m0 = s.m0 := rfl
@[simp] theorem retire_m1 (k : Nat) (s : State) : (retire k s).m1 = s.m1 := rfl
@[simp] theorem retire_carrier (k : Nat) (s : State) : (retire k s).carrier = s.carrier := rfl
@[simp] theorem retire_p0Latch (k : Nat) (s : State) : (retire k s).p0Latch = s.p0Latch := rfl
@[simp] theorem retire_p3 (k : Nat) (s : State) : (retire k s).p3 = s.p3 := rfl
@[simp] theorem retire_p4 (k : Nat) (s : State) : (retire k s).p4 = s.p4 := rfl
@[simp] theorem retire_mem (k : Nat) (s : State) : (retire k s).mem = s.mem := rfl
@[simp] theorem retire_mode (k : Nat) (s : State) : (retire k s).mode = s.mode := rfl
@[simp] theorem retire_afterStop (k : Nat) (s : State) : (retire k s).afterStop = s.afterStop := rfl
@[simp] theorem retire_env (k : Nat) (s : State) : (retire k s).env = s.env := rfl
@[simp] theorem retire_inputs (k : Nat) (s : State) : (retire k s).inputs = s.inputs := rfl
@[simp] theorem retire_free (k : Nat) (s : State) : (retire k s).free = s.free := rfl

/-! `andA` -/

@[simp] theorem andA_params (x : Nibble) (s : State) : (andA x s).params = s.params := rfl
@[simp] theorem andA_pc (x : Nibble) (s : State) : (andA x s).pc = s.pc := rfl
@[simp] theorem andA_sp (x : Nibble) (s : State) : (andA x s).sp = s.sp := rfl
@[simp] theorem andA_asrHigh (x : Nibble) (s : State) : (andA x s).asrHigh = s.asrHigh := rfl
@[simp] theorem andA_a (x : Nibble) (s : State) : (andA x s).a = s.a &&& x := rfl
@[simp] theorem andA_f (x : Nibble) (s : State) : (andA x s).f = s.f := rfl
@[simp] theorem andA_cy (x : Nibble) (s : State) : (andA x s).cy = cyBothBit3 s.a x := rfl
@[simp] theorem andA_t (x : Nibble) (s : State) : (andA x s).t = s.t := rfl
@[simp] theorem andA_trun (x : Nibble) (s : State) : (andA x s).trun = s.trun := rfl
@[simp] theorem andA_m0 (x : Nibble) (s : State) : (andA x s).m0 = s.m0 := rfl
@[simp] theorem andA_m1 (x : Nibble) (s : State) : (andA x s).m1 = s.m1 := rfl
@[simp] theorem andA_carrier (x : Nibble) (s : State) : (andA x s).carrier = s.carrier := rfl
@[simp] theorem andA_p0Latch (x : Nibble) (s : State) : (andA x s).p0Latch = s.p0Latch := rfl
@[simp] theorem andA_p3 (x : Nibble) (s : State) : (andA x s).p3 = s.p3 := rfl
@[simp] theorem andA_p4 (x : Nibble) (s : State) : (andA x s).p4 = s.p4 := rfl
@[simp] theorem andA_mem (x : Nibble) (s : State) : (andA x s).mem = s.mem := rfl
@[simp] theorem andA_mode (x : Nibble) (s : State) : (andA x s).mode = s.mode := rfl
@[simp] theorem andA_afterStop (x : Nibble) (s : State) : (andA x s).afterStop = s.afterStop := rfl
@[simp] theorem andA_env (x : Nibble) (s : State) : (andA x s).env = s.env := rfl
@[simp] theorem andA_inputs (x : Nibble) (s : State) : (andA x s).inputs = s.inputs := rfl
@[simp] theorem andA_free (x : Nibble) (s : State) : (andA x s).free = s.free := rfl

/-! `orA` -/

@[simp] theorem orA_params (x : Nibble) (s : State) : (orA x s).params = s.params := rfl
@[simp] theorem orA_pc (x : Nibble) (s : State) : (orA x s).pc = s.pc := rfl
@[simp] theorem orA_sp (x : Nibble) (s : State) : (orA x s).sp = s.sp := rfl
@[simp] theorem orA_asrHigh (x : Nibble) (s : State) : (orA x s).asrHigh = s.asrHigh := rfl
@[simp] theorem orA_a (x : Nibble) (s : State) : (orA x s).a = s.a ||| x := rfl
@[simp] theorem orA_f (x : Nibble) (s : State) : (orA x s).f = s.f := rfl
@[simp] theorem orA_cy (x : Nibble) (s : State) : (orA x s).cy = false := rfl
@[simp] theorem orA_t (x : Nibble) (s : State) : (orA x s).t = s.t := rfl
@[simp] theorem orA_trun (x : Nibble) (s : State) : (orA x s).trun = s.trun := rfl
@[simp] theorem orA_m0 (x : Nibble) (s : State) : (orA x s).m0 = s.m0 := rfl
@[simp] theorem orA_m1 (x : Nibble) (s : State) : (orA x s).m1 = s.m1 := rfl
@[simp] theorem orA_carrier (x : Nibble) (s : State) : (orA x s).carrier = s.carrier := rfl
@[simp] theorem orA_p0Latch (x : Nibble) (s : State) : (orA x s).p0Latch = s.p0Latch := rfl
@[simp] theorem orA_p3 (x : Nibble) (s : State) : (orA x s).p3 = s.p3 := rfl
@[simp] theorem orA_p4 (x : Nibble) (s : State) : (orA x s).p4 = s.p4 := rfl
@[simp] theorem orA_mem (x : Nibble) (s : State) : (orA x s).mem = s.mem := rfl
@[simp] theorem orA_mode (x : Nibble) (s : State) : (orA x s).mode = s.mode := rfl
@[simp] theorem orA_afterStop (x : Nibble) (s : State) : (orA x s).afterStop = s.afterStop := rfl
@[simp] theorem orA_env (x : Nibble) (s : State) : (orA x s).env = s.env := rfl
@[simp] theorem orA_inputs (x : Nibble) (s : State) : (orA x s).inputs = s.inputs := rfl
@[simp] theorem orA_free (x : Nibble) (s : State) : (orA x s).free = s.free := rfl

/-! `xorA` -/

@[simp] theorem xorA_params (x : Nibble) (s : State) : (xorA x s).params = s.params := rfl
@[simp] theorem xorA_pc (x : Nibble) (s : State) : (xorA x s).pc = s.pc := rfl
@[simp] theorem xorA_sp (x : Nibble) (s : State) : (xorA x s).sp = s.sp := rfl
@[simp] theorem xorA_asrHigh (x : Nibble) (s : State) : (xorA x s).asrHigh = s.asrHigh := rfl
@[simp] theorem xorA_a (x : Nibble) (s : State) : (xorA x s).a = s.a ^^^ x := rfl
@[simp] theorem xorA_f (x : Nibble) (s : State) : (xorA x s).f = s.f := rfl
@[simp] theorem xorA_cy (x : Nibble) (s : State) : (xorA x s).cy = cyBothBit3 s.a x := rfl
@[simp] theorem xorA_t (x : Nibble) (s : State) : (xorA x s).t = s.t := rfl
@[simp] theorem xorA_trun (x : Nibble) (s : State) : (xorA x s).trun = s.trun := rfl
@[simp] theorem xorA_m0 (x : Nibble) (s : State) : (xorA x s).m0 = s.m0 := rfl
@[simp] theorem xorA_m1 (x : Nibble) (s : State) : (xorA x s).m1 = s.m1 := rfl
@[simp] theorem xorA_carrier (x : Nibble) (s : State) : (xorA x s).carrier = s.carrier := rfl
@[simp] theorem xorA_p0Latch (x : Nibble) (s : State) : (xorA x s).p0Latch = s.p0Latch := rfl
@[simp] theorem xorA_p3 (x : Nibble) (s : State) : (xorA x s).p3 = s.p3 := rfl
@[simp] theorem xorA_p4 (x : Nibble) (s : State) : (xorA x s).p4 = s.p4 := rfl
@[simp] theorem xorA_mem (x : Nibble) (s : State) : (xorA x s).mem = s.mem := rfl
@[simp] theorem xorA_mode (x : Nibble) (s : State) : (xorA x s).mode = s.mode := rfl
@[simp] theorem xorA_afterStop (x : Nibble) (s : State) : (xorA x s).afterStop = s.afterStop := rfl
@[simp] theorem xorA_env (x : Nibble) (s : State) : (xorA x s).env = s.env := rfl
@[simp] theorem xorA_inputs (x : Nibble) (s : State) : (xorA x s).inputs = s.inputs := rfl
@[simp] theorem xorA_free (x : Nibble) (s : State) : (xorA x s).free = s.free := rfl

/-! `loadA` -/

@[simp] theorem loadA_params (x : Nibble) (s : State) : (loadA x s).params = s.params := rfl
@[simp] theorem loadA_pc (x : Nibble) (s : State) : (loadA x s).pc = s.pc := rfl
@[simp] theorem loadA_sp (x : Nibble) (s : State) : (loadA x s).sp = s.sp := rfl
@[simp] theorem loadA_asrHigh (x : Nibble) (s : State) : (loadA x s).asrHigh = s.asrHigh := rfl
@[simp] theorem loadA_a (x : Nibble) (s : State) : (loadA x s).a = x := rfl
@[simp] theorem loadA_f (x : Nibble) (s : State) : (loadA x s).f = s.f := rfl
@[simp] theorem loadA_cy (x : Nibble) (s : State) : (loadA x s).cy = false := rfl
@[simp] theorem loadA_t (x : Nibble) (s : State) : (loadA x s).t = s.t := rfl
@[simp] theorem loadA_trun (x : Nibble) (s : State) : (loadA x s).trun = s.trun := rfl
@[simp] theorem loadA_m0 (x : Nibble) (s : State) : (loadA x s).m0 = s.m0 := rfl
@[simp] theorem loadA_m1 (x : Nibble) (s : State) : (loadA x s).m1 = s.m1 := rfl
@[simp] theorem loadA_carrier (x : Nibble) (s : State) : (loadA x s).carrier = s.carrier := rfl
@[simp] theorem loadA_p0Latch (x : Nibble) (s : State) : (loadA x s).p0Latch = s.p0Latch := rfl
@[simp] theorem loadA_p3 (x : Nibble) (s : State) : (loadA x s).p3 = s.p3 := rfl
@[simp] theorem loadA_p4 (x : Nibble) (s : State) : (loadA x s).p4 = s.p4 := rfl
@[simp] theorem loadA_mem (x : Nibble) (s : State) : (loadA x s).mem = s.mem := rfl
@[simp] theorem loadA_mode (x : Nibble) (s : State) : (loadA x s).mode = s.mode := rfl
@[simp] theorem loadA_afterStop (x : Nibble) (s : State) : (loadA x s).afterStop = s.afterStop := rfl
@[simp] theorem loadA_env (x : Nibble) (s : State) : (loadA x s).env = s.env := rfl
@[simp] theorem loadA_inputs (x : Nibble) (s : State) : (loadA x s).inputs = s.inputs := rfl
@[simp] theorem loadA_free (x : Nibble) (s : State) : (loadA x s).free = s.free := rfl

/-! `incrementA` -/

@[simp] theorem incrementA_params (s : State) : (incrementA s).params = s.params := rfl
@[simp] theorem incrementA_pc (s : State) : (incrementA s).pc = s.pc := rfl
@[simp] theorem incrementA_sp (s : State) : (incrementA s).sp = s.sp := rfl
@[simp] theorem incrementA_asrHigh (s : State) : (incrementA s).asrHigh = s.asrHigh := rfl
@[simp] theorem incrementA_a (s : State) : (incrementA s).a = s.a + 1 := rfl
@[simp] theorem incrementA_f (s : State) : (incrementA s).f = s.f := rfl
@[simp] theorem incrementA_cy (s : State) : (incrementA s).cy = cyAllOnes s.a := rfl
@[simp] theorem incrementA_t (s : State) : (incrementA s).t = s.t := rfl
@[simp] theorem incrementA_trun (s : State) : (incrementA s).trun = s.trun := rfl
@[simp] theorem incrementA_m0 (s : State) : (incrementA s).m0 = s.m0 := rfl
@[simp] theorem incrementA_m1 (s : State) : (incrementA s).m1 = s.m1 := rfl
@[simp] theorem incrementA_carrier (s : State) : (incrementA s).carrier = s.carrier := rfl
@[simp] theorem incrementA_p0Latch (s : State) : (incrementA s).p0Latch = s.p0Latch := rfl
@[simp] theorem incrementA_p3 (s : State) : (incrementA s).p3 = s.p3 := rfl
@[simp] theorem incrementA_p4 (s : State) : (incrementA s).p4 = s.p4 := rfl
@[simp] theorem incrementA_mem (s : State) : (incrementA s).mem = s.mem := rfl
@[simp] theorem incrementA_mode (s : State) : (incrementA s).mode = s.mode := rfl
@[simp] theorem incrementA_afterStop (s : State) : (incrementA s).afterStop = s.afterStop := rfl
@[simp] theorem incrementA_env (s : State) : (incrementA s).env = s.env := rfl
@[simp] theorem incrementA_inputs (s : State) : (incrementA s).inputs = s.inputs := rfl
@[simp] theorem incrementA_free (s : State) : (incrementA s).free = s.free := rfl

/-! `rotateA` -/

@[simp] theorem rotateA_params (s : State) : (rotateA s).params = s.params := rfl
@[simp] theorem rotateA_pc (s : State) : (rotateA s).pc = s.pc := rfl
@[simp] theorem rotateA_sp (s : State) : (rotateA s).sp = s.sp := rfl
@[simp] theorem rotateA_asrHigh (s : State) : (rotateA s).asrHigh = s.asrHigh := rfl
@[simp] theorem rotateA_a (s : State) : (rotateA s).a = rotateLeft s.a := rfl
@[simp] theorem rotateA_f (s : State) : (rotateA s).f = s.f := rfl
@[simp] theorem rotateA_cy (s : State) : (rotateA s).cy = cyBit3 s.a := rfl
@[simp] theorem rotateA_t (s : State) : (rotateA s).t = s.t := rfl
@[simp] theorem rotateA_trun (s : State) : (rotateA s).trun = s.trun := rfl
@[simp] theorem rotateA_m0 (s : State) : (rotateA s).m0 = s.m0 := rfl
@[simp] theorem rotateA_m1 (s : State) : (rotateA s).m1 = s.m1 := rfl
@[simp] theorem rotateA_carrier (s : State) : (rotateA s).carrier = s.carrier := rfl
@[simp] theorem rotateA_p0Latch (s : State) : (rotateA s).p0Latch = s.p0Latch := rfl
@[simp] theorem rotateA_p3 (s : State) : (rotateA s).p3 = s.p3 := rfl
@[simp] theorem rotateA_p4 (s : State) : (rotateA s).p4 = s.p4 := rfl
@[simp] theorem rotateA_mem (s : State) : (rotateA s).mem = s.mem := rfl
@[simp] theorem rotateA_mode (s : State) : (rotateA s).mode = s.mode := rfl
@[simp] theorem rotateA_afterStop (s : State) : (rotateA s).afterStop = s.afterStop := rfl
@[simp] theorem rotateA_env (s : State) : (rotateA s).env = s.env := rfl
@[simp] theorem rotateA_inputs (s : State) : (rotateA s).inputs = s.inputs := rfl
@[simp] theorem rotateA_free (s : State) : (rotateA s).free = s.free := rfl

/-! `scafA` -/

@[simp] theorem scafA_params (s : State) : (scafA s).params = s.params := rfl
@[simp] theorem scafA_pc (s : State) : (scafA s).pc = s.pc := rfl
@[simp] theorem scafA_sp (s : State) : (scafA s).sp = s.sp := rfl
@[simp] theorem scafA_asrHigh (s : State) : (scafA s).asrHigh = s.asrHigh := rfl
@[simp] theorem scafA_a (s : State) : (scafA s).a = scafValue s.a := rfl
@[simp] theorem scafA_f (s : State) : (scafA s).f = s.f := rfl
@[simp] theorem scafA_cy (s : State) : (scafA s).cy = cyAllOnes s.a := rfl
@[simp] theorem scafA_t (s : State) : (scafA s).t = s.t := rfl
@[simp] theorem scafA_trun (s : State) : (scafA s).trun = s.trun := rfl
@[simp] theorem scafA_m0 (s : State) : (scafA s).m0 = s.m0 := rfl
@[simp] theorem scafA_m1 (s : State) : (scafA s).m1 = s.m1 := rfl
@[simp] theorem scafA_carrier (s : State) : (scafA s).carrier = s.carrier := rfl
@[simp] theorem scafA_p0Latch (s : State) : (scafA s).p0Latch = s.p0Latch := rfl
@[simp] theorem scafA_p3 (s : State) : (scafA s).p3 = s.p3 := rfl
@[simp] theorem scafA_p4 (s : State) : (scafA s).p4 = s.p4 := rfl
@[simp] theorem scafA_mem (s : State) : (scafA s).mem = s.mem := rfl
@[simp] theorem scafA_mode (s : State) : (scafA s).mode = s.mode := rfl
@[simp] theorem scafA_afterStop (s : State) : (scafA s).afterStop = s.afterStop := rfl
@[simp] theorem scafA_env (s : State) : (scafA s).env = s.env := rfl
@[simp] theorem scafA_inputs (s : State) : (scafA s).inputs = s.inputs := rfl
@[simp] theorem scafA_free (s : State) : (scafA s).free = s.free := rfl

/-! `forgetCy` -/

@[simp] theorem forgetCy_params (s : State) : (forgetCy s).params = s.params := rfl
@[simp] theorem forgetCy_pc (s : State) : (forgetCy s).pc = s.pc := rfl
@[simp] theorem forgetCy_sp (s : State) : (forgetCy s).sp = s.sp := rfl
@[simp] theorem forgetCy_asrHigh (s : State) : (forgetCy s).asrHigh = s.asrHigh := rfl
@[simp] theorem forgetCy_a (s : State) : (forgetCy s).a = s.a := rfl
@[simp] theorem forgetCy_f (s : State) : (forgetCy s).f = s.f := rfl
@[simp] theorem forgetCy_cy (s : State) : (forgetCy s).cy = Config.freeCy s.free := rfl
@[simp] theorem forgetCy_t (s : State) : (forgetCy s).t = s.t := rfl
@[simp] theorem forgetCy_trun (s : State) : (forgetCy s).trun = s.trun := rfl
@[simp] theorem forgetCy_m0 (s : State) : (forgetCy s).m0 = s.m0 := rfl
@[simp] theorem forgetCy_m1 (s : State) : (forgetCy s).m1 = s.m1 := rfl
@[simp] theorem forgetCy_carrier (s : State) : (forgetCy s).carrier = s.carrier := rfl
@[simp] theorem forgetCy_p0Latch (s : State) : (forgetCy s).p0Latch = s.p0Latch := rfl
@[simp] theorem forgetCy_p3 (s : State) : (forgetCy s).p3 = s.p3 := rfl
@[simp] theorem forgetCy_p4 (s : State) : (forgetCy s).p4 = s.p4 := rfl
@[simp] theorem forgetCy_mem (s : State) : (forgetCy s).mem = s.mem := rfl
@[simp] theorem forgetCy_mode (s : State) : (forgetCy s).mode = s.mode := rfl
@[simp] theorem forgetCy_afterStop (s : State) : (forgetCy s).afterStop = s.afterStop := rfl
@[simp] theorem forgetCy_env (s : State) : (forgetCy s).env = s.env := rfl
@[simp] theorem forgetCy_inputs (s : State) : (forgetCy s).inputs = s.inputs := rfl
@[simp] theorem forgetCy_free (s : State) : (forgetCy s).free = s.free := rfl

/-! `writeCell` -/

@[simp] theorem writeCell_params (m : BitVec 1) (n v : Nibble) (s : State) : (writeCell m n v s).params = s.params := rfl
@[simp] theorem writeCell_pc (m : BitVec 1) (n v : Nibble) (s : State) : (writeCell m n v s).pc = s.pc := rfl
@[simp] theorem writeCell_sp (m : BitVec 1) (n v : Nibble) (s : State) : (writeCell m n v s).sp = s.sp := rfl
@[simp] theorem writeCell_asrHigh (m : BitVec 1) (n v : Nibble) (s : State) : (writeCell m n v s).asrHigh = s.asrHigh := rfl
@[simp] theorem writeCell_a (m : BitVec 1) (n v : Nibble) (s : State) : (writeCell m n v s).a = s.a := rfl
@[simp] theorem writeCell_f (m : BitVec 1) (n v : Nibble) (s : State) : (writeCell m n v s).f = s.f := rfl
@[simp] theorem writeCell_cy (m : BitVec 1) (n v : Nibble) (s : State) : (writeCell m n v s).cy = s.cy := rfl
@[simp] theorem writeCell_t (m : BitVec 1) (n v : Nibble) (s : State) : (writeCell m n v s).t = s.t := rfl
@[simp] theorem writeCell_trun (m : BitVec 1) (n v : Nibble) (s : State) : (writeCell m n v s).trun = s.trun := rfl
@[simp] theorem writeCell_m0 (m : BitVec 1) (n v : Nibble) (s : State) : (writeCell m n v s).m0 = s.m0 := rfl
@[simp] theorem writeCell_m1 (m : BitVec 1) (n v : Nibble) (s : State) : (writeCell m n v s).m1 = s.m1 := rfl
@[simp] theorem writeCell_carrier (m : BitVec 1) (n v : Nibble) (s : State) : (writeCell m n v s).carrier = s.carrier := rfl
@[simp] theorem writeCell_p0Latch (m : BitVec 1) (n v : Nibble) (s : State) : (writeCell m n v s).p0Latch = s.p0Latch := rfl
@[simp] theorem writeCell_p3 (m : BitVec 1) (n v : Nibble) (s : State) : (writeCell m n v s).p3 = s.p3 := rfl
@[simp] theorem writeCell_p4 (m : BitVec 1) (n v : Nibble) (s : State) : (writeCell m n v s).p4 = s.p4 := rfl
@[simp] theorem writeCell_mem (m : BitVec 1) (n v : Nibble) (s : State) : (writeCell m n v s).mem = s.mem.writeRam (ramAddr (ramPage s) m n) v := rfl
@[simp] theorem writeCell_mode (m : BitVec 1) (n v : Nibble) (s : State) : (writeCell m n v s).mode = s.mode := rfl
@[simp] theorem writeCell_afterStop (m : BitVec 1) (n v : Nibble) (s : State) : (writeCell m n v s).afterStop = s.afterStop := rfl
@[simp] theorem writeCell_env (m : BitVec 1) (n v : Nibble) (s : State) : (writeCell m n v s).env = s.env := rfl
@[simp] theorem writeCell_inputs (m : BitVec 1) (n v : Nibble) (s : State) : (writeCell m n v s).inputs = s.inputs := rfl
@[simp] theorem writeCell_free (m : BitVec 1) (n v : Nibble) (s : State) : (writeCell m n v s).free = s.free := rfl

/-! `writePair` -/

@[simp] theorem writePair_params (n : Nibble) (v : Octet) (s : State) : (writePair n v s).params = s.params := rfl
@[simp] theorem writePair_pc (n : Nibble) (v : Octet) (s : State) : (writePair n v s).pc = s.pc := rfl
@[simp] theorem writePair_sp (n : Nibble) (v : Octet) (s : State) : (writePair n v s).sp = s.sp := rfl
@[simp] theorem writePair_asrHigh (n : Nibble) (v : Octet) (s : State) : (writePair n v s).asrHigh = s.asrHigh := rfl
@[simp] theorem writePair_a (n : Nibble) (v : Octet) (s : State) : (writePair n v s).a = s.a := rfl
@[simp] theorem writePair_f (n : Nibble) (v : Octet) (s : State) : (writePair n v s).f = s.f := rfl
@[simp] theorem writePair_cy (n : Nibble) (v : Octet) (s : State) : (writePair n v s).cy = s.cy := rfl
@[simp] theorem writePair_t (n : Nibble) (v : Octet) (s : State) : (writePair n v s).t = s.t := rfl
@[simp] theorem writePair_trun (n : Nibble) (v : Octet) (s : State) : (writePair n v s).trun = s.trun := rfl
@[simp] theorem writePair_m0 (n : Nibble) (v : Octet) (s : State) : (writePair n v s).m0 = s.m0 := rfl
@[simp] theorem writePair_m1 (n : Nibble) (v : Octet) (s : State) : (writePair n v s).m1 = s.m1 := rfl
@[simp] theorem writePair_carrier (n : Nibble) (v : Octet) (s : State) : (writePair n v s).carrier = s.carrier := rfl
@[simp] theorem writePair_p0Latch (n : Nibble) (v : Octet) (s : State) : (writePair n v s).p0Latch = s.p0Latch := rfl
@[simp] theorem writePair_p3 (n : Nibble) (v : Octet) (s : State) : (writePair n v s).p3 = s.p3 := rfl
@[simp] theorem writePair_p4 (n : Nibble) (v : Octet) (s : State) : (writePair n v s).p4 = s.p4 := rfl
@[simp] theorem writePair_mem (n : Nibble) (v : Octet) (s : State) : (writePair n v s).mem = (s.mem.writeRam (ramAddr (ramPage s) 1 n) (v.extractLsb' 4 4)).writeRam
      (ramAddr (ramPage s) 0 n) (v.extractLsb' 0 4) := rfl
@[simp] theorem writePair_mode (n : Nibble) (v : Octet) (s : State) : (writePair n v s).mode = s.mode := rfl
@[simp] theorem writePair_afterStop (n : Nibble) (v : Octet) (s : State) : (writePair n v s).afterStop = s.afterStop := rfl
@[simp] theorem writePair_env (n : Nibble) (v : Octet) (s : State) : (writePair n v s).env = s.env := rfl
@[simp] theorem writePair_inputs (n : Nibble) (v : Octet) (s : State) : (writePair n v s).inputs = s.inputs := rfl
@[simp] theorem writePair_free (n : Nibble) (v : Octet) (s : State) : (writePair n v s).free = s.free := rfl

/-! `writeAsr` -/

@[simp] theorem writeAsr_params (v : Addr) (s : State) : (writeAsr v s).params = s.params := rfl
@[simp] theorem writeAsr_pc (v : Addr) (s : State) : (writeAsr v s).pc = s.pc := rfl
@[simp] theorem writeAsr_sp (v : Addr) (s : State) : (writeAsr v s).sp = s.sp := rfl
@[simp] theorem writeAsr_asrHigh (v : Addr) (s : State) : (writeAsr v s).asrHigh = truncAsrHigh s.params.part (v.extractLsb' 8 4) := rfl
@[simp] theorem writeAsr_a (v : Addr) (s : State) : (writeAsr v s).a = s.a := rfl
@[simp] theorem writeAsr_f (v : Addr) (s : State) : (writeAsr v s).f = s.f := rfl
@[simp] theorem writeAsr_cy (v : Addr) (s : State) : (writeAsr v s).cy = s.cy := rfl
@[simp] theorem writeAsr_t (v : Addr) (s : State) : (writeAsr v s).t = s.t := rfl
@[simp] theorem writeAsr_trun (v : Addr) (s : State) : (writeAsr v s).trun = s.trun := rfl
@[simp] theorem writeAsr_m0 (v : Addr) (s : State) : (writeAsr v s).m0 = s.m0 := rfl
@[simp] theorem writeAsr_m1 (v : Addr) (s : State) : (writeAsr v s).m1 = s.m1 := rfl
@[simp] theorem writeAsr_carrier (v : Addr) (s : State) : (writeAsr v s).carrier = s.carrier := rfl
@[simp] theorem writeAsr_p0Latch (v : Addr) (s : State) : (writeAsr v s).p0Latch = s.p0Latch := rfl
@[simp] theorem writeAsr_p3 (v : Addr) (s : State) : (writeAsr v s).p3 = s.p3 := rfl
@[simp] theorem writeAsr_p4 (v : Addr) (s : State) : (writeAsr v s).p4 = s.p4 := rfl
@[simp] theorem writeAsr_mode (v : Addr) (s : State) : (writeAsr v s).mode = s.mode := rfl
@[simp] theorem writeAsr_afterStop (v : Addr) (s : State) : (writeAsr v s).afterStop = s.afterStop := rfl
@[simp] theorem writeAsr_env (v : Addr) (s : State) : (writeAsr v s).env = s.env := rfl
@[simp] theorem writeAsr_inputs (v : Addr) (s : State) : (writeAsr v s).inputs = s.inputs := rfl
@[simp] theorem writeAsr_free (v : Addr) (s : State) : (writeAsr v s).free = s.free := rfl

/-! `timerWrite` -/

@[simp] theorem timerWrite_params (v : Word10) (s : State) : (timerWrite v s).params = s.params := rfl
@[simp] theorem timerWrite_pc (v : Word10) (s : State) : (timerWrite v s).pc = s.pc := rfl
@[simp] theorem timerWrite_sp (v : Word10) (s : State) : (timerWrite v s).sp = s.sp := rfl
@[simp] theorem timerWrite_asrHigh (v : Word10) (s : State) : (timerWrite v s).asrHigh = s.asrHigh := rfl
@[simp] theorem timerWrite_a (v : Word10) (s : State) : (timerWrite v s).a = s.a := rfl
@[simp] theorem timerWrite_f (v : Word10) (s : State) : (timerWrite v s).f = s.f := rfl
@[simp] theorem timerWrite_cy (v : Word10) (s : State) : (timerWrite v s).cy = s.cy := rfl
@[simp] theorem timerWrite_t (v : Word10) (s : State) : (timerWrite v s).t = v := rfl
@[simp] theorem timerWrite_trun (v : Word10) (s : State) : (timerWrite v s).trun = true := rfl
@[simp] theorem timerWrite_m0 (v : Word10) (s : State) : (timerWrite v s).m0 = s.m0 := rfl
@[simp] theorem timerWrite_m1 (v : Word10) (s : State) : (timerWrite v s).m1 = s.m1 := rfl
@[simp] theorem timerWrite_p0Latch (v : Word10) (s : State) : (timerWrite v s).p0Latch = s.p0Latch := rfl
@[simp] theorem timerWrite_p3 (v : Word10) (s : State) : (timerWrite v s).p3 = s.p3 := rfl
@[simp] theorem timerWrite_p4 (v : Word10) (s : State) : (timerWrite v s).p4 = s.p4 := rfl
@[simp] theorem timerWrite_mem (v : Word10) (s : State) : (timerWrite v s).mem = s.mem := rfl
@[simp] theorem timerWrite_mode (v : Word10) (s : State) : (timerWrite v s).mode = s.mode := rfl
@[simp] theorem timerWrite_afterStop (v : Word10) (s : State) : (timerWrite v s).afterStop = s.afterStop := rfl
@[simp] theorem timerWrite_env (v : Word10) (s : State) : (timerWrite v s).env = s.env := rfl
@[simp] theorem timerWrite_inputs (v : Word10) (s : State) : (timerWrite v s).inputs = s.inputs := rfl
@[simp] theorem timerWrite_free (v : Word10) (s : State) : (timerWrite v s).free = s.free := rfl

/-! `writeM0` -/

@[simp] theorem writeM0_params (v : Word10) (s : State) : (writeM0 v s).params = s.params := rfl
@[simp] theorem writeM0_pc (v : Word10) (s : State) : (writeM0 v s).pc = s.pc := rfl
@[simp] theorem writeM0_sp (v : Word10) (s : State) : (writeM0 v s).sp = s.sp := rfl
@[simp] theorem writeM0_asrHigh (v : Word10) (s : State) : (writeM0 v s).asrHigh = s.asrHigh := rfl
@[simp] theorem writeM0_a (v : Word10) (s : State) : (writeM0 v s).a = s.a := rfl
@[simp] theorem writeM0_f (v : Word10) (s : State) : (writeM0 v s).f = s.f := rfl
@[simp] theorem writeM0_cy (v : Word10) (s : State) : (writeM0 v s).cy = s.cy := rfl
@[simp] theorem writeM0_t (v : Word10) (s : State) : (writeM0 v s).t = s.t := rfl
@[simp] theorem writeM0_trun (v : Word10) (s : State) : (writeM0 v s).trun = s.trun := rfl
@[simp] theorem writeM0_m0 (v : Word10) (s : State) : (writeM0 v s).m0 = v &&& m0Mask := rfl
@[simp] theorem writeM0_m1 (v : Word10) (s : State) : (writeM0 v s).m1 = s.m1 := rfl
@[simp] theorem writeM0_p0Latch (v : Word10) (s : State) : (writeM0 v s).p0Latch = s.p0Latch := rfl
@[simp] theorem writeM0_p3 (v : Word10) (s : State) : (writeM0 v s).p3 = s.p3 := rfl
@[simp] theorem writeM0_p4 (v : Word10) (s : State) : (writeM0 v s).p4 = s.p4 := rfl
@[simp] theorem writeM0_mem (v : Word10) (s : State) : (writeM0 v s).mem = s.mem := rfl
@[simp] theorem writeM0_mode (v : Word10) (s : State) : (writeM0 v s).mode = s.mode := rfl
@[simp] theorem writeM0_afterStop (v : Word10) (s : State) : (writeM0 v s).afterStop = s.afterStop := rfl
@[simp] theorem writeM0_env (v : Word10) (s : State) : (writeM0 v s).env = s.env := rfl
@[simp] theorem writeM0_inputs (v : Word10) (s : State) : (writeM0 v s).inputs = s.inputs := rfl
@[simp] theorem writeM0_free (v : Word10) (s : State) : (writeM0 v s).free = s.free := rfl

/-! `writeM1` -/

@[simp] theorem writeM1_params (v : Word10) (s : State) : (writeM1 v s).params = s.params := rfl
@[simp] theorem writeM1_pc (v : Word10) (s : State) : (writeM1 v s).pc = s.pc := rfl
@[simp] theorem writeM1_sp (v : Word10) (s : State) : (writeM1 v s).sp = s.sp := rfl
@[simp] theorem writeM1_asrHigh (v : Word10) (s : State) : (writeM1 v s).asrHigh = s.asrHigh := rfl
@[simp] theorem writeM1_a (v : Word10) (s : State) : (writeM1 v s).a = s.a := rfl
@[simp] theorem writeM1_f (v : Word10) (s : State) : (writeM1 v s).f = s.f := rfl
@[simp] theorem writeM1_cy (v : Word10) (s : State) : (writeM1 v s).cy = s.cy := rfl
@[simp] theorem writeM1_t (v : Word10) (s : State) : (writeM1 v s).t = s.t := rfl
@[simp] theorem writeM1_trun (v : Word10) (s : State) : (writeM1 v s).trun = s.trun := rfl
@[simp] theorem writeM1_m0 (v : Word10) (s : State) : (writeM1 v s).m0 = s.m0 := rfl
@[simp] theorem writeM1_m1 (v : Word10) (s : State) : (writeM1 v s).m1 = v := rfl
@[simp] theorem writeM1_p0Latch (v : Word10) (s : State) : (writeM1 v s).p0Latch = s.p0Latch := rfl
@[simp] theorem writeM1_p3 (v : Word10) (s : State) : (writeM1 v s).p3 = s.p3 := rfl
@[simp] theorem writeM1_p4 (v : Word10) (s : State) : (writeM1 v s).p4 = s.p4 := rfl
@[simp] theorem writeM1_mem (v : Word10) (s : State) : (writeM1 v s).mem = s.mem := rfl
@[simp] theorem writeM1_mode (v : Word10) (s : State) : (writeM1 v s).mode = s.mode := rfl
@[simp] theorem writeM1_afterStop (v : Word10) (s : State) : (writeM1 v s).afterStop = s.afterStop := rfl
@[simp] theorem writeM1_env (v : Word10) (s : State) : (writeM1 v s).env = s.env := rfl
@[simp] theorem writeM1_inputs (v : Word10) (s : State) : (writeM1 v s).inputs = s.inputs := rfl
@[simp] theorem writeM1_free (v : Word10) (s : State) : (writeM1 v s).free = s.free := rfl

/-! `timerStop` -/

@[simp] theorem timerStop_params (s : State) : (timerStop s).params = s.params := rfl
@[simp] theorem timerStop_pc (s : State) : (timerStop s).pc = s.pc := rfl
@[simp] theorem timerStop_sp (s : State) : (timerStop s).sp = s.sp := rfl
@[simp] theorem timerStop_asrHigh (s : State) : (timerStop s).asrHigh = s.asrHigh := rfl
@[simp] theorem timerStop_a (s : State) : (timerStop s).a = s.a := rfl
@[simp] theorem timerStop_f (s : State) : (timerStop s).f = s.f := rfl
@[simp] theorem timerStop_cy (s : State) : (timerStop s).cy = s.cy := rfl
@[simp] theorem timerStop_t (s : State) : (timerStop s).t = 0 := rfl
@[simp] theorem timerStop_trun (s : State) : (timerStop s).trun = false := rfl
@[simp] theorem timerStop_m0 (s : State) : (timerStop s).m0 = s.m0 := rfl
@[simp] theorem timerStop_m1 (s : State) : (timerStop s).m1 = s.m1 := rfl
@[simp] theorem timerStop_p0Latch (s : State) : (timerStop s).p0Latch = s.p0Latch := rfl
@[simp] theorem timerStop_p3 (s : State) : (timerStop s).p3 = s.p3 := rfl
@[simp] theorem timerStop_p4 (s : State) : (timerStop s).p4 = s.p4 := rfl
@[simp] theorem timerStop_mem (s : State) : (timerStop s).mem = s.mem := rfl
@[simp] theorem timerStop_mode (s : State) : (timerStop s).mode = s.mode := rfl
@[simp] theorem timerStop_afterStop (s : State) : (timerStop s).afterStop = s.afterStop := rfl
@[simp] theorem timerStop_env (s : State) : (timerStop s).env = s.env := rfl
@[simp] theorem timerStop_inputs (s : State) : (timerStop s).inputs = s.inputs := rfl
@[simp] theorem timerStop_free (s : State) : (timerStop s).free = s.free := rfl

/-! `stts` -/

@[simp] theorem stts_params (d : Nibble) (s : State) : (stts d s).params = s.params := rfl
@[simp] theorem stts_pc (d : Nibble) (s : State) : (stts d s).pc = s.pc := rfl
@[simp] theorem stts_sp (d : Nibble) (s : State) : (stts d s).sp = s.sp := rfl
@[simp] theorem stts_asrHigh (d : Nibble) (s : State) : (stts d s).asrHigh = s.asrHigh := rfl
@[simp] theorem stts_a (d : Nibble) (s : State) : (stts d s).a = s.a := rfl
@[simp] theorem stts_f (d : Nibble) (s : State) : (stts d s).f = sttsValue d s := rfl
@[simp] theorem stts_cy (d : Nibble) (s : State) : (stts d s).cy = s.cy := rfl
@[simp] theorem stts_t (d : Nibble) (s : State) : (stts d s).t = s.t := rfl
@[simp] theorem stts_trun (d : Nibble) (s : State) : (stts d s).trun = s.trun := rfl
@[simp] theorem stts_m0 (d : Nibble) (s : State) : (stts d s).m0 = s.m0 := rfl
@[simp] theorem stts_m1 (d : Nibble) (s : State) : (stts d s).m1 = s.m1 := rfl
@[simp] theorem stts_carrier (d : Nibble) (s : State) : (stts d s).carrier = s.carrier := rfl
@[simp] theorem stts_p0Latch (d : Nibble) (s : State) : (stts d s).p0Latch = s.p0Latch := rfl
@[simp] theorem stts_p3 (d : Nibble) (s : State) : (stts d s).p3 = s.p3 := rfl
@[simp] theorem stts_p4 (d : Nibble) (s : State) : (stts d s).p4 = s.p4 := rfl
@[simp] theorem stts_mem (d : Nibble) (s : State) : (stts d s).mem = s.mem := rfl
@[simp] theorem stts_mode (d : Nibble) (s : State) : (stts d s).mode = s.mode := rfl
@[simp] theorem stts_afterStop (d : Nibble) (s : State) : (stts d s).afterStop = s.afterStop := rfl
@[simp] theorem stts_env (d : Nibble) (s : State) : (stts d s).env = s.env := rfl
@[simp] theorem stts_inputs (d : Nibble) (s : State) : (stts d s).inputs = s.inputs := rfl
@[simp] theorem stts_free (d : Nibble) (s : State) : (stts d s).free = s.free := rfl

/-! `releaseHalt` -/

@[simp] theorem releaseHalt_params (s : State) : (releaseHalt s).params = s.params := rfl
@[simp] theorem releaseHalt_pc (s : State) : (releaseHalt s).pc = s.pc := rfl
@[simp] theorem releaseHalt_sp (s : State) : (releaseHalt s).sp = s.sp := rfl
@[simp] theorem releaseHalt_asrHigh (s : State) : (releaseHalt s).asrHigh = s.asrHigh := rfl
@[simp] theorem releaseHalt_a (s : State) : (releaseHalt s).a = s.a := rfl
@[simp] theorem releaseHalt_f (s : State) : (releaseHalt s).f = true := rfl
@[simp] theorem releaseHalt_cy (s : State) : (releaseHalt s).cy = s.cy := rfl
@[simp] theorem releaseHalt_t (s : State) : (releaseHalt s).t = s.t := rfl
@[simp] theorem releaseHalt_trun (s : State) : (releaseHalt s).trun = s.trun := rfl
@[simp] theorem releaseHalt_m0 (s : State) : (releaseHalt s).m0 = s.m0 := rfl
@[simp] theorem releaseHalt_m1 (s : State) : (releaseHalt s).m1 = s.m1 := rfl
@[simp] theorem releaseHalt_carrier (s : State) : (releaseHalt s).carrier = s.carrier := rfl
@[simp] theorem releaseHalt_p0Latch (s : State) : (releaseHalt s).p0Latch = s.p0Latch := rfl
@[simp] theorem releaseHalt_p3 (s : State) : (releaseHalt s).p3 = s.p3 := rfl
@[simp] theorem releaseHalt_p4 (s : State) : (releaseHalt s).p4 = s.p4 := rfl
@[simp] theorem releaseHalt_mem (s : State) : (releaseHalt s).mem = s.mem := rfl
@[simp] theorem releaseHalt_mode (s : State) : (releaseHalt s).mode = .run := rfl
@[simp] theorem releaseHalt_afterStop (s : State) : (releaseHalt s).afterStop = s.afterStop := rfl
@[simp] theorem releaseHalt_env (s : State) : (releaseHalt s).env = s.env := rfl
@[simp] theorem releaseHalt_inputs (s : State) : (releaseHalt s).inputs = s.inputs := rfl
@[simp] theorem releaseHalt_free (s : State) : (releaseHalt s).free = s.free := rfl

/-! `releaseStop` -/

@[simp] theorem releaseStop_params (s : State) : (releaseStop s).params = s.params := rfl
@[simp] theorem releaseStop_pc (s : State) : (releaseStop s).pc = s.pc := rfl
@[simp] theorem releaseStop_sp (s : State) : (releaseStop s).sp = s.sp := rfl
@[simp] theorem releaseStop_asrHigh (s : State) : (releaseStop s).asrHigh = s.asrHigh := rfl
@[simp] theorem releaseStop_a (s : State) : (releaseStop s).a = s.a := rfl
@[simp] theorem releaseStop_f (s : State) : (releaseStop s).f = true := rfl
@[simp] theorem releaseStop_cy (s : State) : (releaseStop s).cy = s.cy := rfl
@[simp] theorem releaseStop_t (s : State) : (releaseStop s).t = s.t := rfl
@[simp] theorem releaseStop_trun (s : State) : (releaseStop s).trun = s.trun := rfl
@[simp] theorem releaseStop_m0 (s : State) : (releaseStop s).m0 = s.m0 := rfl
@[simp] theorem releaseStop_m1 (s : State) : (releaseStop s).m1 = s.m1 := rfl
@[simp] theorem releaseStop_carrier (s : State) : (releaseStop s).carrier = s.carrier := rfl
@[simp] theorem releaseStop_p0Latch (s : State) : (releaseStop s).p0Latch = s.p0Latch := rfl
@[simp] theorem releaseStop_p3 (s : State) : (releaseStop s).p3 = s.p3 := rfl
@[simp] theorem releaseStop_p4 (s : State) : (releaseStop s).p4 = s.p4 := rfl
@[simp] theorem releaseStop_mem (s : State) : (releaseStop s).mem = s.mem := rfl
@[simp] theorem releaseStop_mode (s : State) : (releaseStop s).mode = .run := rfl
@[simp] theorem releaseStop_afterStop (s : State) : (releaseStop s).afterStop = true := rfl
@[simp] theorem releaseStop_env (s : State) : (releaseStop s).env = s.env := rfl
@[simp] theorem releaseStop_inputs (s : State) : (releaseStop s).inputs = s.inputs := rfl
@[simp] theorem releaseStop_free (s : State) : (releaseStop s).free = s.free := rfl

/-! `releasePoc` -/

@[simp] theorem releasePoc_params (s : State) : (releasePoc s).params = s.params := rfl
@[simp] theorem releasePoc_pc (s : State) : (releasePoc s).pc = s.pc := rfl
@[simp] theorem releasePoc_sp (s : State) : (releasePoc s).sp = s.sp := rfl
@[simp] theorem releasePoc_asrHigh (s : State) : (releasePoc s).asrHigh = s.asrHigh := rfl
@[simp] theorem releasePoc_a (s : State) : (releasePoc s).a = s.a := rfl
@[simp] theorem releasePoc_f (s : State) : (releasePoc s).f = s.f := rfl
@[simp] theorem releasePoc_cy (s : State) : (releasePoc s).cy = s.cy := rfl
@[simp] theorem releasePoc_t (s : State) : (releasePoc s).t = s.t := rfl
@[simp] theorem releasePoc_trun (s : State) : (releasePoc s).trun = s.trun := rfl
@[simp] theorem releasePoc_m0 (s : State) : (releasePoc s).m0 = s.m0 := rfl
@[simp] theorem releasePoc_m1 (s : State) : (releasePoc s).m1 = s.m1 := rfl
@[simp] theorem releasePoc_carrier (s : State) : (releasePoc s).carrier = s.carrier := rfl
@[simp] theorem releasePoc_p0Latch (s : State) : (releasePoc s).p0Latch = s.p0Latch := rfl
@[simp] theorem releasePoc_p3 (s : State) : (releasePoc s).p3 = s.p3 := rfl
@[simp] theorem releasePoc_p4 (s : State) : (releasePoc s).p4 = s.p4 := rfl
@[simp] theorem releasePoc_mem (s : State) : (releasePoc s).mem = s.mem := rfl
@[simp] theorem releasePoc_mode (s : State) : (releasePoc s).mode = .resetWait false := rfl
@[simp] theorem releasePoc_afterStop (s : State) : (releasePoc s).afterStop = s.afterStop := rfl
@[simp] theorem releasePoc_env (s : State) : (releasePoc s).env = s.env := rfl
@[simp] theorem releasePoc_inputs (s : State) : (releasePoc s).inputs = s.inputs := rfl
@[simp] theorem releasePoc_free (s : State) : (releasePoc s).free = s.free := rfl

/-! `leaveReset` -/

@[simp] theorem leaveReset_params (s : State) : (leaveReset s).params = s.params := rfl
@[simp] theorem leaveReset_pc (s : State) : (leaveReset s).pc = s.pc := rfl
@[simp] theorem leaveReset_sp (s : State) : (leaveReset s).sp = s.sp := rfl
@[simp] theorem leaveReset_asrHigh (s : State) : (leaveReset s).asrHigh = s.asrHigh := rfl
@[simp] theorem leaveReset_a (s : State) : (leaveReset s).a = s.a := rfl
@[simp] theorem leaveReset_f (s : State) : (leaveReset s).f = s.f := rfl
@[simp] theorem leaveReset_cy (s : State) : (leaveReset s).cy = s.cy := rfl
@[simp] theorem leaveReset_t (s : State) : (leaveReset s).t = s.t := rfl
@[simp] theorem leaveReset_trun (s : State) : (leaveReset s).trun = s.trun := rfl
@[simp] theorem leaveReset_m0 (s : State) : (leaveReset s).m0 = s.m0 := rfl
@[simp] theorem leaveReset_m1 (s : State) : (leaveReset s).m1 = s.m1 := rfl
@[simp] theorem leaveReset_carrier (s : State) : (leaveReset s).carrier = s.carrier := rfl
@[simp] theorem leaveReset_p0Latch (s : State) : (leaveReset s).p0Latch = s.p0Latch := rfl
@[simp] theorem leaveReset_p3 (s : State) : (leaveReset s).p3 = s.p3 := rfl
@[simp] theorem leaveReset_p4 (s : State) : (leaveReset s).p4 = s.p4 := rfl
@[simp] theorem leaveReset_mem (s : State) : (leaveReset s).mem = s.mem := rfl
@[simp] theorem leaveReset_mode (s : State) : (leaveReset s).mode = .run := rfl
@[simp] theorem leaveReset_afterStop (s : State) : (leaveReset s).afterStop = s.afterStop := rfl
@[simp] theorem leaveReset_env (s : State) : (leaveReset s).env = s.env := rfl
@[simp] theorem leaveReset_inputs (s : State) : (leaveReset s).inputs = s.inputs := rfl
@[simp] theorem leaveReset_free (s : State) : (leaveReset s).free = s.free := rfl

/-! `resetState` -/

@[simp] theorem resetState_params (held : Bool) (s : State) : (resetState held s).params = s.params := rfl
@[simp] theorem resetState_pc (held : Bool) (s : State) : (resetState held s).pc = 0 := rfl
@[simp] theorem resetState_sp (held : Bool) (s : State) : (resetState held s).sp = 0 := rfl
@[simp] theorem resetState_asrHigh (held : Bool) (s : State) : (resetState held s).asrHigh = s.asrHigh := rfl
@[simp] theorem resetState_a (held : Bool) (s : State) : (resetState held s).a = Config.freeA s.free := rfl
@[simp] theorem resetState_f (held : Bool) (s : State) : (resetState held s).f = false := rfl
@[simp] theorem resetState_cy (held : Bool) (s : State) : (resetState held s).cy = false := rfl
@[simp] theorem resetState_t (held : Bool) (s : State) : (resetState held s).t = 0 := rfl
@[simp] theorem resetState_trun (held : Bool) (s : State) : (resetState held s).trun = false := rfl
@[simp] theorem resetState_m0 (held : Bool) (s : State) : (resetState held s).m0 = Config.freeM0 s.free &&& m0Mask := rfl
@[simp] theorem resetState_m1 (held : Bool) (s : State) : (resetState held s).m1 = Config.freeM1 s.free := rfl
@[simp] theorem resetState_carrier (held : Bool) (s : State) : (resetState held s).carrier = Carrier.idle := rfl
@[simp] theorem resetState_p0Latch (held : Bool) (s : State) : (resetState held s).p0Latch = 0xFF := rfl
@[simp] theorem resetState_p3 (held : Bool) (s : State) : (resetState held s).p3 = s.p3 &&& 0x08 := rfl
@[simp] theorem resetState_p4 (held : Bool) (s : State) : (resetState held s).p4 = 0x26 := rfl
@[simp] theorem resetState_mode (held : Bool) (s : State) : (resetState held s).mode = .resetWait held := rfl
@[simp] theorem resetState_afterStop (held : Bool) (s : State) : (resetState held s).afterStop = false := rfl
@[simp] theorem resetState_env (held : Bool) (s : State) : (resetState held s).env = s.env := rfl
@[simp] theorem resetState_inputs (held : Bool) (s : State) : (resetState held s).inputs = s.inputs := rfl
@[simp] theorem resetState_free (held : Bool) (s : State) : (resetState held s).free = s.free := rfl

/-! `forgetAsr` -/

@[simp] theorem forgetAsr_params (s : State) : (forgetAsr s).params = s.params := rfl
@[simp] theorem forgetAsr_pc (s : State) : (forgetAsr s).pc = s.pc := rfl
@[simp] theorem forgetAsr_sp (s : State) : (forgetAsr s).sp = s.sp := rfl
@[simp] theorem forgetAsr_asrHigh (s : State) : (forgetAsr s).asrHigh = truncAsrHigh s.params.part (Config.freeAsrHigh s.free) := rfl
@[simp] theorem forgetAsr_a (s : State) : (forgetAsr s).a = s.a := rfl
@[simp] theorem forgetAsr_f (s : State) : (forgetAsr s).f = s.f := rfl
@[simp] theorem forgetAsr_cy (s : State) : (forgetAsr s).cy = s.cy := rfl
@[simp] theorem forgetAsr_t (s : State) : (forgetAsr s).t = s.t := rfl
@[simp] theorem forgetAsr_trun (s : State) : (forgetAsr s).trun = s.trun := rfl
@[simp] theorem forgetAsr_m0 (s : State) : (forgetAsr s).m0 = s.m0 := rfl
@[simp] theorem forgetAsr_m1 (s : State) : (forgetAsr s).m1 = s.m1 := rfl
@[simp] theorem forgetAsr_carrier (s : State) : (forgetAsr s).carrier = s.carrier := rfl
@[simp] theorem forgetAsr_p0Latch (s : State) : (forgetAsr s).p0Latch = s.p0Latch := rfl
@[simp] theorem forgetAsr_p3 (s : State) : (forgetAsr s).p3 = s.p3 := rfl
@[simp] theorem forgetAsr_p4 (s : State) : (forgetAsr s).p4 = s.p4 := rfl
@[simp] theorem forgetAsr_mode (s : State) : (forgetAsr s).mode = s.mode := rfl
@[simp] theorem forgetAsr_afterStop (s : State) : (forgetAsr s).afterStop = s.afterStop := rfl
@[simp] theorem forgetAsr_env (s : State) : (forgetAsr s).env = s.env := rfl
@[simp] theorem forgetAsr_inputs (s : State) : (forgetAsr s).inputs = s.inputs := rfl
@[simp] theorem forgetAsr_free (s : State) : (forgetAsr s).free = s.free := rfl

/-! `loseRam` -/

@[simp] theorem loseRam_params (s : State) : (loseRam s).params = s.params := rfl
@[simp] theorem loseRam_pc (s : State) : (loseRam s).pc = s.pc := rfl
@[simp] theorem loseRam_sp (s : State) : (loseRam s).sp = s.sp := rfl
@[simp] theorem loseRam_asrHigh (s : State) : (loseRam s).asrHigh = truncAsrHigh s.params.part (Config.freeAsrHigh s.free) := rfl
@[simp] theorem loseRam_a (s : State) : (loseRam s).a = s.a := rfl
@[simp] theorem loseRam_f (s : State) : (loseRam s).f = s.f := rfl
@[simp] theorem loseRam_cy (s : State) : (loseRam s).cy = s.cy := rfl
@[simp] theorem loseRam_t (s : State) : (loseRam s).t = s.t := rfl
@[simp] theorem loseRam_trun (s : State) : (loseRam s).trun = s.trun := rfl
@[simp] theorem loseRam_m0 (s : State) : (loseRam s).m0 = s.m0 := rfl
@[simp] theorem loseRam_m1 (s : State) : (loseRam s).m1 = s.m1 := rfl
@[simp] theorem loseRam_carrier (s : State) : (loseRam s).carrier = s.carrier := rfl
@[simp] theorem loseRam_p0Latch (s : State) : (loseRam s).p0Latch = s.p0Latch := rfl
@[simp] theorem loseRam_p3 (s : State) : (loseRam s).p3 = s.p3 &&& 0xF7 := rfl
@[simp] theorem loseRam_p4 (s : State) : (loseRam s).p4 = s.p4 := rfl
@[simp] theorem loseRam_mem (s : State) : (loseRam s).mem = forgetCells s.free (32 * ramPages s.params.part) s.mem := rfl
@[simp] theorem loseRam_mode (s : State) : (loseRam s).mode = s.mode := rfl
@[simp] theorem loseRam_afterStop (s : State) : (loseRam s).afterStop = s.afterStop := rfl
@[simp] theorem loseRam_env (s : State) : (loseRam s).env = s.env := rfl
@[simp] theorem loseRam_inputs (s : State) : (loseRam s).inputs = s.inputs := rfl
@[simp] theorem loseRam_free (s : State) : (loseRam s).free = s.free := rfl

/-! `advanceFree` -/

@[simp] theorem advanceFree_params (s : State) : (advanceFree s).params = s.params := rfl
@[simp] theorem advanceFree_pc (s : State) : (advanceFree s).pc = s.pc := rfl
@[simp] theorem advanceFree_sp (s : State) : (advanceFree s).sp = s.sp := rfl
@[simp] theorem advanceFree_asrHigh (s : State) : (advanceFree s).asrHigh = s.asrHigh := rfl
@[simp] theorem advanceFree_a (s : State) : (advanceFree s).a = s.a := rfl
@[simp] theorem advanceFree_f (s : State) : (advanceFree s).f = s.f := rfl
@[simp] theorem advanceFree_cy (s : State) : (advanceFree s).cy = s.cy := rfl
@[simp] theorem advanceFree_t (s : State) : (advanceFree s).t = s.t := rfl
@[simp] theorem advanceFree_trun (s : State) : (advanceFree s).trun = s.trun := rfl
@[simp] theorem advanceFree_m0 (s : State) : (advanceFree s).m0 = s.m0 := rfl
@[simp] theorem advanceFree_m1 (s : State) : (advanceFree s).m1 = s.m1 := rfl
@[simp] theorem advanceFree_carrier (s : State) : (advanceFree s).carrier = s.carrier := rfl
@[simp] theorem advanceFree_p0Latch (s : State) : (advanceFree s).p0Latch = s.p0Latch := rfl
@[simp] theorem advanceFree_p3 (s : State) : (advanceFree s).p3 = s.p3 := rfl
@[simp] theorem advanceFree_p4 (s : State) : (advanceFree s).p4 = s.p4 := rfl
@[simp] theorem advanceFree_mem (s : State) : (advanceFree s).mem = s.mem := rfl
@[simp] theorem advanceFree_mode (s : State) : (advanceFree s).mode = s.mode := rfl
@[simp] theorem advanceFree_afterStop (s : State) : (advanceFree s).afterStop = s.afterStop := rfl
@[simp] theorem advanceFree_env (s : State) : (advanceFree s).env = s.env := rfl
@[simp] theorem advanceFree_inputs (s : State) : (advanceFree s).inputs = s.inputs := rfl
@[simp] theorem advanceFree_free (s : State) : (advanceFree s).free = s.free + 1 := rfl

/-! `touchRf` -/

@[simp] theorem touchRf_params (n : Nibble) (s : State) : (touchRf n s).params = s.params := by
  unfold touchRf; split <;> rfl
@[simp] theorem touchRf_pc (n : Nibble) (s : State) : (touchRf n s).pc = s.pc := by
  unfold touchRf; split <;> rfl
@[simp] theorem touchRf_sp (n : Nibble) (s : State) : (touchRf n s).sp = s.sp := by
  unfold touchRf; split <;> rfl
@[simp] theorem touchRf_a (n : Nibble) (s : State) : (touchRf n s).a = s.a := by
  unfold touchRf; split <;> rfl
@[simp] theorem touchRf_f (n : Nibble) (s : State) : (touchRf n s).f = s.f := by
  unfold touchRf; split <;> rfl
@[simp] theorem touchRf_cy (n : Nibble) (s : State) : (touchRf n s).cy = s.cy := by
  unfold touchRf; split <;> rfl
@[simp] theorem touchRf_t (n : Nibble) (s : State) : (touchRf n s).t = s.t := by
  unfold touchRf; split <;> rfl
@[simp] theorem touchRf_trun (n : Nibble) (s : State) : (touchRf n s).trun = s.trun := by
  unfold touchRf; split <;> rfl
@[simp] theorem touchRf_m0 (n : Nibble) (s : State) : (touchRf n s).m0 = s.m0 := by
  unfold touchRf; split <;> rfl
@[simp] theorem touchRf_m1 (n : Nibble) (s : State) : (touchRf n s).m1 = s.m1 := by
  unfold touchRf; split <;> rfl
@[simp] theorem touchRf_carrier (n : Nibble) (s : State) : (touchRf n s).carrier = s.carrier := by
  unfold touchRf; split <;> rfl
@[simp] theorem touchRf_p0Latch (n : Nibble) (s : State) : (touchRf n s).p0Latch = s.p0Latch := by
  unfold touchRf; split <;> rfl
@[simp] theorem touchRf_p3 (n : Nibble) (s : State) : (touchRf n s).p3 = s.p3 := by
  unfold touchRf; split <;> rfl
@[simp] theorem touchRf_p4 (n : Nibble) (s : State) : (touchRf n s).p4 = s.p4 := by
  unfold touchRf; split <;> rfl
@[simp] theorem touchRf_mem (n : Nibble) (s : State) : (touchRf n s).mem = s.mem := by
  unfold touchRf; split <;> rfl
@[simp] theorem touchRf_mode (n : Nibble) (s : State) : (touchRf n s).mode = s.mode := by
  unfold touchRf; split <;> rfl
@[simp] theorem touchRf_afterStop (n : Nibble) (s : State) : (touchRf n s).afterStop = s.afterStop := by
  unfold touchRf; split <;> rfl
@[simp] theorem touchRf_env (n : Nibble) (s : State) : (touchRf n s).env = s.env := by
  unfold touchRf; split <;> rfl
@[simp] theorem touchRf_inputs (n : Nibble) (s : State) : (touchRf n s).inputs = s.inputs := by
  unfold touchRf; split <;> rfl
@[simp] theorem touchRf_free (n : Nibble) (s : State) : (touchRf n s).free = s.free := by
  unfold touchRf; split <;> rfl

/-! `portWrite` -/

@[simp] theorem portWrite_params (m : BitVec 1) (p : Port) (v : Nibble) (s : State) : (portWrite m p v s).params = s.params := by
  cases p <;> rfl
@[simp] theorem portWrite_pc (m : BitVec 1) (p : Port) (v : Nibble) (s : State) : (portWrite m p v s).pc = s.pc := by
  cases p <;> rfl
@[simp] theorem portWrite_sp (m : BitVec 1) (p : Port) (v : Nibble) (s : State) : (portWrite m p v s).sp = s.sp := by
  cases p <;> rfl
@[simp] theorem portWrite_asrHigh (m : BitVec 1) (p : Port) (v : Nibble) (s : State) : (portWrite m p v s).asrHigh = s.asrHigh := by
  cases p <;> rfl
@[simp] theorem portWrite_a (m : BitVec 1) (p : Port) (v : Nibble) (s : State) : (portWrite m p v s).a = s.a := by
  cases p <;> rfl
@[simp] theorem portWrite_f (m : BitVec 1) (p : Port) (v : Nibble) (s : State) : (portWrite m p v s).f = s.f := by
  cases p <;> rfl
@[simp] theorem portWrite_cy (m : BitVec 1) (p : Port) (v : Nibble) (s : State) : (portWrite m p v s).cy = s.cy := by
  cases p <;> rfl
@[simp] theorem portWrite_t (m : BitVec 1) (p : Port) (v : Nibble) (s : State) : (portWrite m p v s).t = s.t := by
  cases p <;> rfl
@[simp] theorem portWrite_trun (m : BitVec 1) (p : Port) (v : Nibble) (s : State) : (portWrite m p v s).trun = s.trun := by
  cases p <;> rfl
@[simp] theorem portWrite_m0 (m : BitVec 1) (p : Port) (v : Nibble) (s : State) : (portWrite m p v s).m0 = s.m0 := by
  cases p <;> rfl
@[simp] theorem portWrite_m1 (m : BitVec 1) (p : Port) (v : Nibble) (s : State) : (portWrite m p v s).m1 = s.m1 := by
  cases p <;> rfl
@[simp] theorem portWrite_carrier (m : BitVec 1) (p : Port) (v : Nibble) (s : State) : (portWrite m p v s).carrier = s.carrier := by
  cases p <;> rfl
@[simp] theorem portWrite_mem (m : BitVec 1) (p : Port) (v : Nibble) (s : State) : (portWrite m p v s).mem = s.mem := by
  cases p <;> rfl
@[simp] theorem portWrite_mode (m : BitVec 1) (p : Port) (v : Nibble) (s : State) : (portWrite m p v s).mode = s.mode := by
  cases p <;> rfl
@[simp] theorem portWrite_afterStop (m : BitVec 1) (p : Port) (v : Nibble) (s : State) : (portWrite m p v s).afterStop = s.afterStop := by
  cases p <;> rfl
@[simp] theorem portWrite_env (m : BitVec 1) (p : Port) (v : Nibble) (s : State) : (portWrite m p v s).env = s.env := by
  cases p <;> rfl
@[simp] theorem portWrite_inputs (m : BitVec 1) (p : Port) (v : Nibble) (s : State) : (portWrite m p v s).inputs = s.inputs := by
  cases p <;> rfl
@[simp] theorem portWrite_free (m : BitVec 1) (p : Port) (v : Nibble) (s : State) : (portWrite m p v s).free = s.free := by
  cases p <;> rfl

/-! `portWritePair` -/

@[simp] theorem portWritePair_params (p : Port) (v : Octet) (s : State) : (portWritePair p v s).params = s.params := by
  cases p <;> rfl
@[simp] theorem portWritePair_pc (p : Port) (v : Octet) (s : State) : (portWritePair p v s).pc = s.pc := by
  cases p <;> rfl
@[simp] theorem portWritePair_sp (p : Port) (v : Octet) (s : State) : (portWritePair p v s).sp = s.sp := by
  cases p <;> rfl
@[simp] theorem portWritePair_asrHigh (p : Port) (v : Octet) (s : State) : (portWritePair p v s).asrHigh = s.asrHigh := by
  cases p <;> rfl
@[simp] theorem portWritePair_a (p : Port) (v : Octet) (s : State) : (portWritePair p v s).a = s.a := by
  cases p <;> rfl
@[simp] theorem portWritePair_f (p : Port) (v : Octet) (s : State) : (portWritePair p v s).f = s.f := by
  cases p <;> rfl
@[simp] theorem portWritePair_cy (p : Port) (v : Octet) (s : State) : (portWritePair p v s).cy = s.cy := by
  cases p <;> rfl
@[simp] theorem portWritePair_t (p : Port) (v : Octet) (s : State) : (portWritePair p v s).t = s.t := by
  cases p <;> rfl
@[simp] theorem portWritePair_trun (p : Port) (v : Octet) (s : State) : (portWritePair p v s).trun = s.trun := by
  cases p <;> rfl
@[simp] theorem portWritePair_m0 (p : Port) (v : Octet) (s : State) : (portWritePair p v s).m0 = s.m0 := by
  cases p <;> rfl
@[simp] theorem portWritePair_m1 (p : Port) (v : Octet) (s : State) : (portWritePair p v s).m1 = s.m1 := by
  cases p <;> rfl
@[simp] theorem portWritePair_carrier (p : Port) (v : Octet) (s : State) : (portWritePair p v s).carrier = s.carrier := by
  cases p <;> rfl
@[simp] theorem portWritePair_mem (p : Port) (v : Octet) (s : State) : (portWritePair p v s).mem = s.mem := by
  cases p <;> rfl
@[simp] theorem portWritePair_mode (p : Port) (v : Octet) (s : State) : (portWritePair p v s).mode = s.mode := by
  cases p <;> rfl
@[simp] theorem portWritePair_afterStop (p : Port) (v : Octet) (s : State) : (portWritePair p v s).afterStop = s.afterStop := by
  cases p <;> rfl
@[simp] theorem portWritePair_env (p : Port) (v : Octet) (s : State) : (portWritePair p v s).env = s.env := by
  cases p <;> rfl
@[simp] theorem portWritePair_inputs (p : Port) (v : Octet) (s : State) : (portWritePair p v s).inputs = s.inputs := by
  cases p <;> rfl
@[simp] theorem portWritePair_free (p : Port) (v : Octet) (s : State) : (portWritePair p v s).free = s.free := by
  cases p <;> rfl

/-! `enterStandby` -/

@[simp] theorem enterStandby_params (d : Nibble) (s : State) : (enterStandby d s).params = s.params := by
  unfold enterStandby; split <;> rfl
@[simp] theorem enterStandby_pc (d : Nibble) (s : State) : (enterStandby d s).pc = s.pc := by
  unfold enterStandby; split <;> rfl
@[simp] theorem enterStandby_sp (d : Nibble) (s : State) : (enterStandby d s).sp = s.sp := by
  unfold enterStandby; split <;> rfl
@[simp] theorem enterStandby_asrHigh (d : Nibble) (s : State) : (enterStandby d s).asrHigh = s.asrHigh := by
  unfold enterStandby; split <;> rfl
@[simp] theorem enterStandby_a (d : Nibble) (s : State) : (enterStandby d s).a = s.a := by
  unfold enterStandby; split <;> rfl
@[simp] theorem enterStandby_f (d : Nibble) (s : State) : (enterStandby d s).f = s.f := by
  unfold enterStandby; split <;> rfl
@[simp] theorem enterStandby_cy (d : Nibble) (s : State) : (enterStandby d s).cy = s.cy := by
  unfold enterStandby; split <;> rfl
@[simp] theorem enterStandby_m0 (d : Nibble) (s : State) : (enterStandby d s).m0 = s.m0 := by
  unfold enterStandby; split <;> rfl
@[simp] theorem enterStandby_m1 (d : Nibble) (s : State) : (enterStandby d s).m1 = s.m1 := by
  unfold enterStandby; split <;> rfl
@[simp] theorem enterStandby_p0Latch (d : Nibble) (s : State) : (enterStandby d s).p0Latch = s.p0Latch := by
  unfold enterStandby; split <;> rfl
@[simp] theorem enterStandby_p3 (d : Nibble) (s : State) : (enterStandby d s).p3 = s.p3 := by
  unfold enterStandby; split <;> rfl
@[simp] theorem enterStandby_p4 (d : Nibble) (s : State) : (enterStandby d s).p4 = s.p4 := by
  unfold enterStandby; split <;> rfl
@[simp] theorem enterStandby_mem (d : Nibble) (s : State) : (enterStandby d s).mem = s.mem := by
  unfold enterStandby; split <;> rfl
@[simp] theorem enterStandby_afterStop (d : Nibble) (s : State) : (enterStandby d s).afterStop = s.afterStop := by
  unfold enterStandby; split <;> rfl
@[simp] theorem enterStandby_env (d : Nibble) (s : State) : (enterStandby d s).env = s.env := by
  unfold enterStandby; split <;> rfl
@[simp] theorem enterStandby_inputs (d : Nibble) (s : State) : (enterStandby d s).inputs = s.inputs := by
  unfold enterStandby; split <;> rfl
@[simp] theorem enterStandby_free (d : Nibble) (s : State) : (enterStandby d s).free = s.free := by
  unfold enterStandby; split <;> rfl

/-! `tick` -/

@[simp] theorem tick_params (s : State) : (tick s).params = s.params := by
  unfold tick; split <;> [split <;> rfl; rfl]
@[simp] theorem tick_pc (s : State) : (tick s).pc = s.pc := by
  unfold tick; split <;> [split <;> rfl; rfl]
@[simp] theorem tick_sp (s : State) : (tick s).sp = s.sp := by
  unfold tick; split <;> [split <;> rfl; rfl]
@[simp] theorem tick_asrHigh (s : State) : (tick s).asrHigh = s.asrHigh := by
  unfold tick; split <;> [split <;> rfl; rfl]
@[simp] theorem tick_a (s : State) : (tick s).a = s.a := by
  unfold tick; split <;> [split <;> rfl; rfl]
@[simp] theorem tick_f (s : State) : (tick s).f = s.f := by
  unfold tick; split <;> [split <;> rfl; rfl]
@[simp] theorem tick_cy (s : State) : (tick s).cy = s.cy := by
  unfold tick; split <;> [split <;> rfl; rfl]
@[simp] theorem tick_m0 (s : State) : (tick s).m0 = s.m0 := by
  unfold tick; split <;> [split <;> rfl; rfl]
@[simp] theorem tick_m1 (s : State) : (tick s).m1 = s.m1 := by
  unfold tick; split <;> [split <;> rfl; rfl]
@[simp] theorem tick_p0Latch (s : State) : (tick s).p0Latch = s.p0Latch := by
  unfold tick; split <;> [split <;> rfl; rfl]
@[simp] theorem tick_p3 (s : State) : (tick s).p3 = s.p3 := by
  unfold tick; split <;> [split <;> rfl; rfl]
@[simp] theorem tick_p4 (s : State) : (tick s).p4 = s.p4 := by
  unfold tick; split <;> [split <;> rfl; rfl]
@[simp] theorem tick_mem (s : State) : (tick s).mem = s.mem := by
  unfold tick; split <;> [split <;> rfl; rfl]
@[simp] theorem tick_mode (s : State) : (tick s).mode = s.mode := by
  unfold tick; split <;> [split <;> rfl; rfl]
@[simp] theorem tick_afterStop (s : State) : (tick s).afterStop = s.afterStop := by
  unfold tick; split <;> [split <;> rfl; rfl]
@[simp] theorem tick_env (s : State) : (tick s).env = s.env := by
  unfold tick; split <;> [split <;> rfl; rfl]
@[simp] theorem tick_inputs (s : State) : (tick s).inputs = s.inputs := by
  unfold tick; split <;> [split <;> rfl; rfl]
@[simp] theorem tick_free (s : State) : (tick s).free = s.free := by
  unfold tick; split <;> [split <;> rfl; rfl]

/-! `sample` -/

@[simp] theorem sample_params (s : State) : (sample s).params = s.params := by
  unfold sample; split <;> rfl
@[simp] theorem sample_pc (s : State) : (sample s).pc = s.pc := by
  unfold sample; split <;> rfl
@[simp] theorem sample_sp (s : State) : (sample s).sp = s.sp := by
  unfold sample; split <;> rfl
@[simp] theorem sample_asrHigh (s : State) : (sample s).asrHigh = s.asrHigh := by
  unfold sample; split <;> rfl
@[simp] theorem sample_a (s : State) : (sample s).a = s.a := by
  unfold sample; split <;> rfl
@[simp] theorem sample_f (s : State) : (sample s).f = s.f := by
  unfold sample; split <;> rfl
@[simp] theorem sample_cy (s : State) : (sample s).cy = s.cy := by
  unfold sample; split <;> rfl
@[simp] theorem sample_t (s : State) : (sample s).t = s.t := by
  unfold sample; split <;> rfl
@[simp] theorem sample_trun (s : State) : (sample s).trun = s.trun := by
  unfold sample; split <;> rfl
@[simp] theorem sample_m0 (s : State) : (sample s).m0 = s.m0 := by
  unfold sample; split <;> rfl
@[simp] theorem sample_m1 (s : State) : (sample s).m1 = s.m1 := by
  unfold sample; split <;> rfl
@[simp] theorem sample_carrier (s : State) : (sample s).carrier = s.carrier := by
  unfold sample; split <;> rfl
@[simp] theorem sample_p0Latch (s : State) : (sample s).p0Latch = s.p0Latch := by
  unfold sample; split <;> rfl
@[simp] theorem sample_p3 (s : State) : (sample s).p3 = s.p3 := by
  unfold sample; split <;> rfl
@[simp] theorem sample_p4 (s : State) : (sample s).p4 = s.p4 := by
  unfold sample; split <;> rfl
@[simp] theorem sample_mem (s : State) : (sample s).mem = s.mem := by
  unfold sample; split <;> rfl
@[simp] theorem sample_mode (s : State) : (sample s).mode = s.mode := by
  unfold sample; split <;> rfl
@[simp] theorem sample_afterStop (s : State) : (sample s).afterStop = s.afterStop := by
  unfold sample; split <;> rfl
@[simp] theorem sample_free (s : State) : (sample s).free = s.free := by
  unfold sample; split <;> rfl

/-! `ticks` -/

@[simp] theorem ticks_params (k : Nat) (s : State) : (ticks k s).params = s.params := by
  induction k generalizing s with
  | zero => rfl
  | succ k ih => simp [ticks, ih]
@[simp] theorem ticks_pc (k : Nat) (s : State) : (ticks k s).pc = s.pc := by
  induction k generalizing s with
  | zero => rfl
  | succ k ih => simp [ticks, ih]
@[simp] theorem ticks_sp (k : Nat) (s : State) : (ticks k s).sp = s.sp := by
  induction k generalizing s with
  | zero => rfl
  | succ k ih => simp [ticks, ih]
@[simp] theorem ticks_asrHigh (k : Nat) (s : State) : (ticks k s).asrHigh = s.asrHigh := by
  induction k generalizing s with
  | zero => rfl
  | succ k ih => simp [ticks, ih]
@[simp] theorem ticks_a (k : Nat) (s : State) : (ticks k s).a = s.a := by
  induction k generalizing s with
  | zero => rfl
  | succ k ih => simp [ticks, ih]
@[simp] theorem ticks_f (k : Nat) (s : State) : (ticks k s).f = s.f := by
  induction k generalizing s with
  | zero => rfl
  | succ k ih => simp [ticks, ih]
@[simp] theorem ticks_cy (k : Nat) (s : State) : (ticks k s).cy = s.cy := by
  induction k generalizing s with
  | zero => rfl
  | succ k ih => simp [ticks, ih]
@[simp] theorem ticks_m0 (k : Nat) (s : State) : (ticks k s).m0 = s.m0 := by
  induction k generalizing s with
  | zero => rfl
  | succ k ih => simp [ticks, ih]
@[simp] theorem ticks_m1 (k : Nat) (s : State) : (ticks k s).m1 = s.m1 := by
  induction k generalizing s with
  | zero => rfl
  | succ k ih => simp [ticks, ih]
@[simp] theorem ticks_p0Latch (k : Nat) (s : State) : (ticks k s).p0Latch = s.p0Latch := by
  induction k generalizing s with
  | zero => rfl
  | succ k ih => simp [ticks, ih]
@[simp] theorem ticks_p3 (k : Nat) (s : State) : (ticks k s).p3 = s.p3 := by
  induction k generalizing s with
  | zero => rfl
  | succ k ih => simp [ticks, ih]
@[simp] theorem ticks_p4 (k : Nat) (s : State) : (ticks k s).p4 = s.p4 := by
  induction k generalizing s with
  | zero => rfl
  | succ k ih => simp [ticks, ih]
@[simp] theorem ticks_mem (k : Nat) (s : State) : (ticks k s).mem = s.mem := by
  induction k generalizing s with
  | zero => rfl
  | succ k ih => simp [ticks, ih]
@[simp] theorem ticks_mode (k : Nat) (s : State) : (ticks k s).mode = s.mode := by
  induction k generalizing s with
  | zero => rfl
  | succ k ih => simp [ticks, ih]
@[simp] theorem ticks_afterStop (k : Nat) (s : State) : (ticks k s).afterStop = s.afterStop := by
  induction k generalizing s with
  | zero => rfl
  | succ k ih => simp [ticks, ih]
@[simp] theorem ticks_env (k : Nat) (s : State) : (ticks k s).env = s.env := by
  induction k generalizing s with
  | zero => rfl
  | succ k ih => simp [ticks, ih]
@[simp] theorem ticks_inputs (k : Nat) (s : State) : (ticks k s).inputs = s.inputs := by
  induction k generalizing s with
  | zero => rfl
  | succ k ih => simp [ticks, ih]
@[simp] theorem ticks_free (k : Nat) (s : State) : (ticks k s).free = s.free := by
  induction k generalizing s with
  | zero => rfl
  | succ k ih => simp [ticks, ih]

/-! `endCycles` -/

@[simp] theorem endCycles_params (i : Instr) (s : State) : (endCycles i s).params = s.params := by
  unfold endCycles; split <;> simp
@[simp] theorem endCycles_pc (i : Instr) (s : State) : (endCycles i s).pc = s.pc := by
  unfold endCycles; split <;> simp
@[simp] theorem endCycles_sp (i : Instr) (s : State) : (endCycles i s).sp = s.sp := by
  unfold endCycles; split <;> simp
@[simp] theorem endCycles_asrHigh (i : Instr) (s : State) : (endCycles i s).asrHigh = s.asrHigh := by
  unfold endCycles; split <;> simp
@[simp] theorem endCycles_a (i : Instr) (s : State) : (endCycles i s).a = s.a := by
  unfold endCycles; split <;> simp
@[simp] theorem endCycles_f (i : Instr) (s : State) : (endCycles i s).f = s.f := by
  unfold endCycles; split <;> simp
@[simp] theorem endCycles_cy (i : Instr) (s : State) : (endCycles i s).cy = s.cy := by
  unfold endCycles; split <;> simp
@[simp] theorem endCycles_m0 (i : Instr) (s : State) : (endCycles i s).m0 = s.m0 := by
  unfold endCycles; split <;> simp
@[simp] theorem endCycles_m1 (i : Instr) (s : State) : (endCycles i s).m1 = s.m1 := by
  unfold endCycles; split <;> simp
@[simp] theorem endCycles_p0Latch (i : Instr) (s : State) : (endCycles i s).p0Latch = s.p0Latch := by
  unfold endCycles; split <;> simp
@[simp] theorem endCycles_p3 (i : Instr) (s : State) : (endCycles i s).p3 = s.p3 := by
  unfold endCycles; split <;> simp
@[simp] theorem endCycles_p4 (i : Instr) (s : State) : (endCycles i s).p4 = s.p4 := by
  unfold endCycles; split <;> simp
@[simp] theorem endCycles_mem (i : Instr) (s : State) : (endCycles i s).mem = s.mem := by
  unfold endCycles; split <;> simp
@[simp] theorem endCycles_mode (i : Instr) (s : State) : (endCycles i s).mode = s.mode := by
  unfold endCycles; split <;> simp
@[simp] theorem endCycles_afterStop (i : Instr) (s : State) : (endCycles i s).afterStop = s.afterStop := by
  unfold endCycles; split <;> simp
@[simp] theorem endCycles_env (i : Instr) (s : State) : (endCycles i s).env = s.env := by
  unfold endCycles; split <;> simp
@[simp] theorem endCycles_inputs (i : Instr) (s : State) : (endCycles i s).inputs = s.inputs := by
  unfold endCycles; split <;> simp

@[simp] theorem endCycles_free (i : Instr) (s : State) : (endCycles i s).free = s.free + 1 := by
  unfold endCycles; split <;> simp

end Sys2Proof.Machine
end

