-- ==== Sys2Proof/Laws/Ops.lean ====
section
/-! SUPPORT. For each shared operation one lemma that says once everything it can do. -/

namespace Sys2Proof.Machine

/-! ## Operand forms -/

/-- An instruction with a register operand goes on only where R92 does not refuse the cell. -/
theorem withCell_next_iff {n : Nibble} {s t : State} {k : State → Out} :
    withCell n s k = .next t ↔ cellRefused n s = false ∧ k (touchRf n s) = .next t := by
  unfold withCell
  cases cellRefused n s <;> simp

theorem withCell_of_not_refused {n : Nibble} {s : State} {k : State → Out}
    (h : cellRefused n s = false) : withCell n s k = k (touchRf n s) := by simp [withCell, h]

/-- An instruction with a table operand goes on only where neither R92 nor R89 refuses the read. -/
theorem withTable_next_iff {s t : State} {k : Word10 → Out} :
    withTable s k = .next t ↔
      pagedRefused s = false ∧ mounted s.params.part (dataPointer s) = true ∧
        k (tableWord s) = .next t := by
  unfold withTable
  cases pagedRefused s <;> cases mounted s.params.part (dataPointer s) <;> simp

theorem withTable_of_mounted {s : State} {k : Word10 → Out} (h : pagedRefused s = false)
    (hm : mounted s.params.part (dataPointer s) = true) : withTable s k = k (tableWord s) := by
  simp [withTable, h, hm]

/-- A cell other than those of RF is named without a trace in ASR (R26). -/
theorem touchRf_of_ne {n : Nibble} (s : State) (h : n ≠ 15) : touchRf n s = s := if_neg h

/-- Naming RF leaves the upper ASR bits at the free value of the step (R26). -/
theorem touchRf_rf (s : State) :
    touchRf 15 s =
      { s with asrHigh := truncAsrHigh s.params.part (Config.freeAsrHigh s.free) } := rfl

@[simp] theorem ramPage_touchRf (n : Nibble) (s : State) : ramPage (touchRf n s) = ramPage s := by
  simp [ramPage]

@[simp] theorem readCell_touchRf (m : BitVec 1) (n k : Nibble) (s : State) :
    readCell m n (touchRf k s) = readCell m n s := by simp [readCell]

@[simp] theorem ramPage_writeCell (m : BitVec 1) (n v : Nibble) (s : State) :
    ramPage (writeCell m n v s) = ramPage s := rfl

@[simp] theorem ramPage_writePair (n : Nibble) (v : Octet) (s : State) :
    ramPage (writePair n v s) = ramPage s := rfl

@[simp] theorem r0RfPage_writeAsr (v : Addr) (s : State) : r0RfPage (writeAsr v s) = r0RfPage s := rfl

/-- Reading a cell after writing one of the selected page (R27, R91). -/
theorem readCell_writeCell (m l : BitVec 1) (n k v : Nibble) (s : State) :
    readCell l k (writeCell m n v s) = if m = l ∧ n = k then v else readCell l k s := by
  simp [readCell, ramAddr_inj]

/-- Reading a cell after writing a pair of the selected page (R28). -/
theorem readCell_writePair (l : BitVec 1) (n k : Nibble) (v : Octet) (s : State) :
    readCell l k (writePair n v s) =
      if n = k then (if l = 0 then v.extractLsb' 0 4 else v.extractLsb' 4 4) else readCell l k s := by
  rcases (show l = 0 ∨ l = 1 by revert l; decide) with rfl | rfl <;> by_cases h : n = k <;>
    simp [readCell, ramAddr_inj, h]

/-- ASR after `ASR <- v` is v cut to `PC_BITS` bits (R24, R25). -/
theorem asrValue_writeAsr (v : Addr) (s : State) :
    asrValue (writeAsr v s) =
      truncAsrHigh s.params.part (v.extractLsb' 8 4) ++ (v.extractLsb' 4 4 ++ v.extractLsb' 0 4) := by
  have e : (writeAsr v s).mem = (s.mem.writeRam (ramAddr (r0RfPage s) 1 15) (v.extractLsb' 4 4)).writeRam
      (ramAddr (r0RfPage s) 0 15) (v.extractLsb' 0 4) := rfl
  simp [asrValue, e, ramAddr_inj]

/-! ## The canonical form -/

/-- Naming a cell, writing a cell, a pair or ASR keeps the canonical form of memory. -/
theorem writeCell_wf {m : BitVec 1} {n v : Nibble} {s : State} (h : s.mem.wf) : (writeCell m n v s).mem.wf :=
  writeRam_wf _ h (ramAddr_lt _ _ _)

theorem writePair_wf {n : Nibble} {v : Octet} {s : State} (h : s.mem.wf) : (writePair n v s).mem.wf :=
  writeCell_wf (writeCell_wf h)

theorem writeAsr_wf {v : Addr} {s : State} (h : s.mem.wf) : (writeAsr v s).mem.wf :=
  writeRam_wf _ (writeRam_wf _ h (ramAddr_lt _ _ _)) (ramAddr_lt _ _ _)

/-- Every reset keeps the canonical form of memory (R303, R351). -/
theorem resetState_wf {poc : Bool} {s : State} (h : s.mem.wf) : (resetState poc s).mem.wf :=
  writeRam_wf _ (writeRam_wf _ h (ramAddr_lt _ _ _)) (ramAddr_lt _ _ _)

theorem internalReset_wf {cause : ResetCause} {s : State} (h : s.mem.wf) : (internalReset cause s).mem.wf := by
  cases cause
  case spOverflow =>
    exact resetState_wf (s := forgetAsr s)
      (writeRam_wf _ (writeRam_wf _ h (ramAddr_lt _ _ _)) (ramAddr_lt _ _ _))
  all_goals exact resetState_wf h

theorem pocReset_wf {ramLost : Bool} {s : State} (h : s.mem.wf) : (pocReset ramLost s).mem.wf := by
  cases ramLost
  · exact internalReset_wf h
  · have hk : 32 * ramPages s.params.part ≤ ramCells := by cases s.params.part <;> decide
    exact internalReset_wf (s := loseRam s) (forgetCells_wf _ _ h hk)

/-! ## Jumps, CALL and RET -/

/-- A jump goes on only on a part that has the page; it writes PC alone (R211). -/
theorem jumpIf_next_iff {taken : Bool} {page : BitVec 2} {addr : Word10} {s t : State} :
    jumpIf taken page addr s = .next t ↔
      hasPage s.params.part page = true ∧
        t = { s with pc := if taken then jumpTarget s.params.part page addr else s.nextPc 2 } := by
  unfold jumpIf
  cases hasPage s.params.part page <;> simp [eq_comm]

/-- What CALL can do (R231). -/
theorem callTo_next_iff {page : BitVec 2} {addr : Word10} {s t : State} :
    callTo page addr s = .next t ↔
      hasPage s.params.part page = true ∧ pagedRefused s = false ∧
        ((s.sp = 1 ∧ t = internalReset .spOverflow s) ∨
          (s.sp ≠ 1 ∧
            t = { writeAsr (s.nextPc 3) s with
                    sp := 1, pc := jumpTarget s.params.part page addr })) := by
  unfold callTo
  cases hasPage s.params.part page
  · simp
  · cases pagedRefused s
    · by_cases h : s.sp = 1
      · rw [if_neg (by simp), if_neg (by simp), if_pos h]
        constructor
        · rintro ⟨⟩; exact ⟨rfl, rfl, .inl ⟨h, rfl⟩⟩
        · rintro ⟨-, -, ⟨-, rfl⟩ | ⟨hn, -⟩⟩
          · rfl
          · exact absurd h hn
      · rw [if_neg (by simp), if_neg (by simp), if_neg h]
        constructor
        · rintro ⟨⟩; exact ⟨rfl, rfl, .inr ⟨h, rfl⟩⟩
        · rintro ⟨-, -, ⟨hn, -⟩ | ⟨-, rfl⟩⟩
          · exact absurd hn h
          · rfl
    · simp

/-! ## The reset -/

/-- Every reset is the reset table applied to what its cause left of ASR and data memory (R71, R303). -/
theorem internalReset_eq (cause : ResetCause) (s : State) :
    internalReset cause s =
      match cause with
      | .poc => resetState true s
      | .spOverflow => resetState false (forgetAsr s)
      | _ => resetState false s := by
  cases cause <;> rfl

theorem pocReset_eq (ramLost : Bool) (s : State) :
    pocReset ramLost s = resetState true (if ramLost then loseRam s else s) := rfl

/-! ## The timer -/

/-- The carrier generator over a machine cycle: on, ended after a steady output, or completing what had started
(R324, R326). -/
theorem carrierCycle_cases (s : State) :
    (outputActive s = true ∧ (cary s && timerCount s == 0) = false ∧
      carrierCycle s = carrierCycleActive (m0Modulo s) (m1Modulo s) s.carrier) ∨
    (outputActive s = true ∧ (cary s && timerCount s == 0) = true ∧ carrierCycle s = s.carrier.rest) ∨
    (outputActive s = false ∧ carrierCycle s = carrierCycleIdle s.carrier) := by
  unfold carrierCycle
  cases outputActive s <;> cases cary s && timerCount s == 0 <;> simp

@[simp] theorem rest_high (c : Carrier) : c.rest.high = false := rfl
@[simp] theorem rest_count (c : Carrier) : c.rest.count = 0 := rfl
@[simp] theorem rest_unspecified (c : Carrier) : c.rest.unspecified = c.unspecified := rfl

/-- `Tick` while the clock runs (R321). -/
theorem tick_running {s : State} (h : clockRuns s.mode = true) :
    tick s =
      if timerCount s ≠ 0 then
        { s with t := s.t.extractLsb' 9 1 ++ (timerCount s - 1), carrier := carrierCycle s }
      else { s with trun := false, carrier := carrierCycle s } := by
  simp [tick, h]

/-- `Tick` with the clock stopped does nothing (R321). -/
theorem tick_stopped {s : State} (h : clockRuns s.mode = false) : tick s = s := by simp [tick, h]

end Sys2Proof.Machine
end

