-- ==== Sys2Proof/Laws/PerInstr.lean ====
section
/-! SUPPORT. The statement made per instruction: how many words it is stored in (R112). -/

namespace Sys2Proof.Laws

/-- An instruction is encoded in as many words as its first word announces (R112). -/
def EncodingLength.Statement (i : Instr) : Prop :=
  ∀ lay : AddrLayout, (encode lay i).length = instrWords i

theorem EncodingLength.anlR0n (n : Nibble) : EncodingLength.Statement (.anlR0n n) := fun _ => rfl
theorem EncodingLength.anlR1n (n : Nibble) : EncodingLength.Statement (.anlR1n n) := fun _ => rfl
theorem EncodingLength.anlTabH : EncodingLength.Statement .anlTabH := fun _ => rfl
theorem EncodingLength.anlTabL : EncodingLength.Statement .anlTabL := fun _ => rfl
theorem EncodingLength.anlData4 (d : Nibble) : EncodingLength.Statement (.anlData4 d) := fun _ => rfl
theorem EncodingLength.orlR0n (n : Nibble) : EncodingLength.Statement (.orlR0n n) := fun _ => rfl
theorem EncodingLength.orlR1n (n : Nibble) : EncodingLength.Statement (.orlR1n n) := fun _ => rfl
theorem EncodingLength.orlTabH : EncodingLength.Statement .orlTabH := fun _ => rfl
theorem EncodingLength.orlTabL : EncodingLength.Statement .orlTabL := fun _ => rfl
theorem EncodingLength.orlData4 (d : Nibble) : EncodingLength.Statement (.orlData4 d) := fun _ => rfl
theorem EncodingLength.xrlR0n (n : Nibble) : EncodingLength.Statement (.xrlR0n n) := fun _ => rfl
theorem EncodingLength.xrlR1n (n : Nibble) : EncodingLength.Statement (.xrlR1n n) := fun _ => rfl
theorem EncodingLength.xrlTabH : EncodingLength.Statement .xrlTabH := fun _ => rfl
theorem EncodingLength.xrlTabL : EncodingLength.Statement .xrlTabL := fun _ => rfl
theorem EncodingLength.xrlData4 (d : Nibble) : EncodingLength.Statement (.xrlData4 d) := fun _ => rfl
theorem EncodingLength.incA : EncodingLength.Statement .incA := fun _ => rfl
theorem EncodingLength.rlA : EncodingLength.Statement .rlA := fun _ => rfl
theorem EncodingLength.rlzA : EncodingLength.Statement .rlzA := fun _ => rfl
theorem EncodingLength.inP00 : EncodingLength.Statement .inP00 := fun _ => rfl
theorem EncodingLength.inP01 : EncodingLength.Statement .inP01 := fun _ => rfl
theorem EncodingLength.inP03 : EncodingLength.Statement .inP03 := fun _ => rfl
theorem EncodingLength.inP04 : EncodingLength.Statement .inP04 := fun _ => rfl
theorem EncodingLength.inP10 : EncodingLength.Statement .inP10 := fun _ => rfl
theorem EncodingLength.inP11 : EncodingLength.Statement .inP11 := fun _ => rfl
theorem EncodingLength.inP13 : EncodingLength.Statement .inP13 := fun _ => rfl
theorem EncodingLength.inP14 : EncodingLength.Statement .inP14 := fun _ => rfl
theorem EncodingLength.outP00 : EncodingLength.Statement .outP00 := fun _ => rfl
theorem EncodingLength.outP01 : EncodingLength.Statement .outP01 := fun _ => rfl
theorem EncodingLength.outP03 : EncodingLength.Statement .outP03 := fun _ => rfl
theorem EncodingLength.outP04 : EncodingLength.Statement .outP04 := fun _ => rfl
theorem EncodingLength.outP10 : EncodingLength.Statement .outP10 := fun _ => rfl
theorem EncodingLength.outP11 : EncodingLength.Statement .outP11 := fun _ => rfl
theorem EncodingLength.outP13 : EncodingLength.Statement .outP13 := fun _ => rfl
theorem EncodingLength.outP14 : EncodingLength.Statement .outP14 := fun _ => rfl
theorem EncodingLength.anlP00 : EncodingLength.Statement .anlP00 := fun _ => rfl
theorem EncodingLength.anlP01 : EncodingLength.Statement .anlP01 := fun _ => rfl
theorem EncodingLength.anlP03 : EncodingLength.Statement .anlP03 := fun _ => rfl
theorem EncodingLength.anlP04 : EncodingLength.Statement .anlP04 := fun _ => rfl
theorem EncodingLength.anlP10 : EncodingLength.Statement .anlP10 := fun _ => rfl
theorem EncodingLength.anlP11 : EncodingLength.Statement .anlP11 := fun _ => rfl
theorem EncodingLength.anlP13 : EncodingLength.Statement .anlP13 := fun _ => rfl
theorem EncodingLength.anlP14 : EncodingLength.Statement .anlP14 := fun _ => rfl
theorem EncodingLength.orlP00 : EncodingLength.Statement .orlP00 := fun _ => rfl
theorem EncodingLength.orlP01 : EncodingLength.Statement .orlP01 := fun _ => rfl
theorem EncodingLength.orlP03 : EncodingLength.Statement .orlP03 := fun _ => rfl
theorem EncodingLength.orlP04 : EncodingLength.Statement .orlP04 := fun _ => rfl
theorem EncodingLength.orlP10 : EncodingLength.Statement .orlP10 := fun _ => rfl
theorem EncodingLength.orlP11 : EncodingLength.Statement .orlP11 := fun _ => rfl
theorem EncodingLength.orlP13 : EncodingLength.Statement .orlP13 := fun _ => rfl
theorem EncodingLength.orlP14 : EncodingLength.Statement .orlP14 := fun _ => rfl
theorem EncodingLength.xrlP00 : EncodingLength.Statement .xrlP00 := fun _ => rfl
theorem EncodingLength.xrlP01 : EncodingLength.Statement .xrlP01 := fun _ => rfl
theorem EncodingLength.xrlP03 : EncodingLength.Statement .xrlP03 := fun _ => rfl
theorem EncodingLength.xrlP04 : EncodingLength.Statement .xrlP04 := fun _ => rfl
theorem EncodingLength.xrlP10 : EncodingLength.Statement .xrlP10 := fun _ => rfl
theorem EncodingLength.xrlP11 : EncodingLength.Statement .xrlP11 := fun _ => rfl
theorem EncodingLength.xrlP13 : EncodingLength.Statement .xrlP13 := fun _ => rfl
theorem EncodingLength.xrlP14 : EncodingLength.Statement .xrlP14 := fun _ => rfl
theorem EncodingLength.outP0Data8 (d : Octet) : EncodingLength.Statement (.outP0Data8 d) := fun _ => rfl
theorem EncodingLength.outP1Data8 (d : Octet) : EncodingLength.Statement (.outP1Data8 d) := fun _ => rfl
theorem EncodingLength.outP3Data8 (d : Octet) : EncodingLength.Statement (.outP3Data8 d) := fun _ => rfl
theorem EncodingLength.outP4Data8 (d : Octet) : EncodingLength.Statement (.outP4Data8 d) := fun _ => rfl
theorem EncodingLength.movAR0n (n : Nibble) : EncodingLength.Statement (.movAR0n n) := fun _ => rfl
theorem EncodingLength.movAR1n (n : Nibble) : EncodingLength.Statement (.movAR1n n) := fun _ => rfl
theorem EncodingLength.movATabH : EncodingLength.Statement .movATabH := fun _ => rfl
theorem EncodingLength.movATabL : EncodingLength.Statement .movATabL := fun _ => rfl
theorem EncodingLength.movAData4 (d : Nibble) : EncodingLength.Statement (.movAData4 d) := fun _ => rfl
theorem EncodingLength.movR0nA (n : Nibble) : EncodingLength.Statement (.movR0nA n) := fun _ => rfl
theorem EncodingLength.movR1nA (n : Nibble) : EncodingLength.Statement (.movR1nA n) := fun _ => rfl
theorem EncodingLength.movRnData8 (n : Nibble) (d : Octet) : EncodingLength.Statement (.movRnData8 n d) := fun _ => rfl
theorem EncodingLength.movRnTab (n : Nibble) : EncodingLength.Statement (.movRnTab n) := fun _ => rfl
theorem EncodingLength.jmpPage0 (addr : Word10) : EncodingLength.Statement (.jmpPage0 addr) := fun _ => rfl
theorem EncodingLength.jmpPage1 (addr : Word10) : EncodingLength.Statement (.jmpPage1 addr) := fun _ => rfl
theorem EncodingLength.jmpPage2 (addr : Word10) : EncodingLength.Statement (.jmpPage2 addr) := fun _ => rfl
theorem EncodingLength.jmpPage3 (addr : Word10) : EncodingLength.Statement (.jmpPage3 addr) := fun _ => rfl
theorem EncodingLength.jcPage0 (addr : Word10) : EncodingLength.Statement (.jcPage0 addr) := fun _ => rfl
theorem EncodingLength.jcPage1 (addr : Word10) : EncodingLength.Statement (.jcPage1 addr) := fun _ => rfl
theorem EncodingLength.jcPage2 (addr : Word10) : EncodingLength.Statement (.jcPage2 addr) := fun _ => rfl
theorem EncodingLength.jcPage3 (addr : Word10) : EncodingLength.Statement (.jcPage3 addr) := fun _ => rfl
theorem EncodingLength.jncPage0 (addr : Word10) : EncodingLength.Statement (.jncPage0 addr) := fun _ => rfl
theorem EncodingLength.jncPage1 (addr : Word10) : EncodingLength.Statement (.jncPage1 addr) := fun _ => rfl
theorem EncodingLength.jncPage2 (addr : Word10) : EncodingLength.Statement (.jncPage2 addr) := fun _ => rfl
theorem EncodingLength.jncPage3 (addr : Word10) : EncodingLength.Statement (.jncPage3 addr) := fun _ => rfl
theorem EncodingLength.jfPage0 (addr : Word10) : EncodingLength.Statement (.jfPage0 addr) := fun _ => rfl
theorem EncodingLength.jfPage1 (addr : Word10) : EncodingLength.Statement (.jfPage1 addr) := fun _ => rfl
theorem EncodingLength.jfPage2 (addr : Word10) : EncodingLength.Statement (.jfPage2 addr) := fun _ => rfl
theorem EncodingLength.jfPage3 (addr : Word10) : EncodingLength.Statement (.jfPage3 addr) := fun _ => rfl
theorem EncodingLength.jnfPage0 (addr : Word10) : EncodingLength.Statement (.jnfPage0 addr) := fun _ => rfl
theorem EncodingLength.jnfPage1 (addr : Word10) : EncodingLength.Statement (.jnfPage1 addr) := fun _ => rfl
theorem EncodingLength.jnfPage2 (addr : Word10) : EncodingLength.Statement (.jnfPage2 addr) := fun _ => rfl
theorem EncodingLength.jnfPage3 (addr : Word10) : EncodingLength.Statement (.jnfPage3 addr) := fun _ => rfl
theorem EncodingLength.callPage0 (addr : Word10) : EncodingLength.Statement (.callPage0 addr) := fun _ => rfl
theorem EncodingLength.callPage1 (addr : Word10) : EncodingLength.Statement (.callPage1 addr) := fun _ => rfl
theorem EncodingLength.callPage2 (addr : Word10) : EncodingLength.Statement (.callPage2 addr) := fun _ => rfl
theorem EncodingLength.callPage3 (addr : Word10) : EncodingLength.Statement (.callPage3 addr) := fun _ => rfl
theorem EncodingLength.ret : EncodingLength.Statement .ret := fun _ => rfl
theorem EncodingLength.movAT0 : EncodingLength.Statement .movAT0 := fun _ => rfl
theorem EncodingLength.movAT1 : EncodingLength.Statement .movAT1 := fun _ => rfl
theorem EncodingLength.movAM00 : EncodingLength.Statement .movAM00 := fun _ => rfl
theorem EncodingLength.movAM01 : EncodingLength.Statement .movAM01 := fun _ => rfl
theorem EncodingLength.movAM10 : EncodingLength.Statement .movAM10 := fun _ => rfl
theorem EncodingLength.movAM11 : EncodingLength.Statement .movAM11 := fun _ => rfl
theorem EncodingLength.movT0A : EncodingLength.Statement .movT0A := fun _ => rfl
theorem EncodingLength.movT1A : EncodingLength.Statement .movT1A := fun _ => rfl
theorem EncodingLength.movM00A : EncodingLength.Statement .movM00A := fun _ => rfl
theorem EncodingLength.movM01A : EncodingLength.Statement .movM01A := fun _ => rfl
theorem EncodingLength.movM10A : EncodingLength.Statement .movM10A := fun _ => rfl
theorem EncodingLength.movM11A : EncodingLength.Statement .movM11A := fun _ => rfl
theorem EncodingLength.movTData10 (d : Word10) : EncodingLength.Statement (.movTData10 d) := fun _ => rfl
theorem EncodingLength.movM0Data10 (d : Word10) : EncodingLength.Statement (.movM0Data10 d) := fun _ => rfl
theorem EncodingLength.movM1Data10 (d : Word10) : EncodingLength.Statement (.movM1Data10 d) := fun _ => rfl
theorem EncodingLength.movTTab : EncodingLength.Statement .movTTab := fun _ => rfl
theorem EncodingLength.movM0Tab : EncodingLength.Statement .movM0Tab := fun _ => rfl
theorem EncodingLength.movM1Tab : EncodingLength.Statement .movM1Tab := fun _ => rfl
theorem EncodingLength.haltData4 (d : Nibble) : EncodingLength.Statement (.haltData4 d) := fun _ => rfl
theorem EncodingLength.sttsData4 (d : Nibble) : EncodingLength.Statement (.sttsData4 d) := fun _ => rfl
theorem EncodingLength.sttsR0n (n : Nibble) : EncodingLength.Statement (.sttsR0n n) := fun _ => rfl
theorem EncodingLength.scaf : EncodingLength.Statement .scaf := fun _ => rfl
theorem EncodingLength.nop : EncodingLength.Statement .nop := fun _ => rfl

end Sys2Proof.Laws
end

