-- ==== Sys2Proof/Laws/Step.lean ====
section
/-! SUPPORT. What a step can do, said once: the inversion of `step` and of running one instruction. -/

namespace Sys2Proof.Machine

/-- Placing program words keeps the canonical form. -/
theorem storeWords_wf (p : Part) (pc : Addr) (ws : List Word10) :
    ∀ (k : Nat) (m : Memory), m.wf → (storeWords p pc k ws m).wf := by
  induction ws with
  | nil => exact fun _ _ h => h
  | cons w rest ih =>
    exact fun k m h => ih (k + 1) _ (writeRom_wf w h (truncAddr p (pc + BitVec.ofNat 12 k)).isLt)

/-- The oscillator's wait is over: by the sample, or because none is left (R345, R352). -/
theorem waitOver_iff {s : State} : waitOver s = true ↔ s.env.oscStable = true ∨ s.inputs = [] := by
  simp [waitOver]

/-- Running an instruction, taken apart (R127, R280, R321). -/
theorem runInstr_next_iff {s t : State} :
    runInstr s = .next t ↔
      ∃ i v, fetchInstr s = .ok i ∧ (s.afterStop = true → i = .nop) ∧
        exec i { s with afterStop := false } = .next v ∧ t = endCycles i v := by
  unfold runInstr
  cases hf : fetchInstr s with
  | ok i =>
    simp only [runFetched]
    by_cases ha : s.afterStop && i != .nop
    · rw [if_pos ha]
      simp only [Bool.and_eq_true, bne_iff_ne] at ha
      constructor
      · intro h; cases h
      · rintro ⟨j, v, hj, hn, -⟩
        cases hj
        exact absurd (hn ha.1) ha.2
    · rw [if_neg ha]
      have hn : s.afterStop = true → i = .nop := by
        intro h; simpa [h] using ha
      cases he : exec i { s with afterStop := false } with
      | next v =>
        constructor
        · intro h; cases h; exact ⟨i, v, rfl, hn, he, rfl⟩
        · rintro ⟨j, u, hj, -, hu, rfl⟩
          cases hj; rw [he] at hu; cases hu; rfl
      | fault r =>
        constructor
        · intro h; cases h
        · rintro ⟨j, u, hj, -, hu, -⟩
          cases hj; rw [he] at hu; cases hu
      | refused r =>
        constructor
        · intro h; cases h
        · rintro ⟨j, u, hj, -, hu, -⟩
          cases hj; rw [he] at hu; cases hu
  | fault r => simp
  | refused r => simp

/-- Everything a step that answers a next state did (R343, R345, R350 to R352, R372). -/
theorem step_next_cases {s t : State} (h : step s = .next t) :
    (sample s).env.supply = .belowPoc ∧ t = advanceFree (pocReset false (sample s)) ∨
    (sample s).env.supply = .belowVid ∧ t = advanceFree (pocReset true (sample s)) ∨
    (sample s).env.supply = .normal ∧
      ((s.mode = .run ∧ runInstr (sample s) = .next t) ∨
       (∃ d, s.mode = .halt d ∧
          ((relCond d (sample s) = true ∧ runInstr (releaseHalt (sample s)) = .next t) ∨
           (relCond d (sample s) = false ∧ t = advanceFree (tick (sample s))))) ∨
       (∃ d, s.mode = .stop d ∧
          (((relCond d (sample s) && waitOver (sample s)) = true ∧
              t = advanceFree (releaseStop (sample s))) ∨
           ((relCond d (sample s) && waitOver (sample s)) = false ∧
              t = advanceFree (sample s)))) ∨
       (∃ held, s.mode = .resetWait held ∧ (held && (sample s).env.pins.ki == 0xF) = false ∧
          ((waitOver (sample s) = true ∧ t = advanceFree (leaveReset (sample s))) ∨
           (waitOver (sample s) = false ∧ t = advanceFree (releasePoc (sample s)))))) := by
  unfold step cycle at h
  cases hs : (sample s).env.supply with
  | dip => simp [hs] at h
  | belowPoc => simp only [hs] at h; cases h; exact .inl ⟨rfl, rfl⟩
  | belowVid => simp only [hs] at h; cases h; exact .inr (.inl ⟨rfl, rfl⟩)
  | normal =>
    simp only [hs, modeCycle, sample_mode] at h
    refine .inr (.inr ⟨rfl, ?_⟩)
    cases hm : s.mode with
    | run => simp only [hm] at h; exact .inl ⟨rfl, h⟩
    | halt d =>
      simp only [hm, haltCycle] at h
      refine .inr (.inl ⟨d, rfl, ?_⟩)
      split at h
      · exact .inl ⟨‹_›, h⟩
      · cases h; exact .inr ⟨eq_false_of_ne_true ‹_›, rfl⟩
    | stop d =>
      simp only [hm, stopCycle] at h
      refine .inr (.inr (.inl ⟨d, rfl, ?_⟩))
      split at h
      · cases h; exact .inl ⟨‹_›, rfl⟩
      · cases h; exact .inr ⟨eq_false_of_ne_true ‹_›, rfl⟩
    | resetWait held =>
      simp only [hm, resetCycle] at h
      split at h
      · cases h
      · refine .inr (.inr (.inr ⟨held, rfl, eq_false_of_ne_true ‹_›, ?_⟩))
        split at h
        · cases h; exact .inl ⟨‹_›, rfl⟩
        · cases h; exact .inr ⟨eq_false_of_ne_true ‹_›, rfl⟩

end Sys2Proof.Machine
end

