-- ==== Sys2Proof/Tests/Slice0.lean ====
section
/-! SUPPORT. Tests: the smoke test of WellFormed, decoding from words written out from the spec's tables, one-step
vectors of spec/95_test_vectors.md, and a witness for the hypotheses of every statement. -/

namespace Sys2Proof.Tests

open Sys2Proof.Machine

/-! ## WellFormed -/

/-- R125 (a): `MOV R0,@R0` is no instruction. -/
theorem test_wellFormed_refuses_mov_r0_table : (Instr.movRnTab 0).wellFormed = false := by decide

theorem test_wellFormed_accepts_mov_r1_table : (Instr.movRnTab 1).wellFormed = true := by decide

/-! ## Decoding -/

/-- The words are the instruction and nothing is left over. -/
def decodesTo (ws : List Word10) (i : Instr) : Bool :=
  match decode .split ws with
  | .ok (j, []) => j == i
  | _ => false

/-- The words are refused for this reason. -/
def decodeRefuses (ws : List Word10) (e : DecodeError) : Bool :=
  match decode .split ws with
  | .ok _ => false
  | .error x => x == e

/-- Words of spec/opcode_table.json (R121) with n = 5, data4 = 9H, data8 = 5AH, data10 = 232H, addr = 2AAH. -/
theorem test_decode_accumulator :
    ([
      ([0b1101100101#10], .anlR0n 5),
      ([0b1101000101#10], .anlR1n 5),
      ([0b1101010000#10], .anlTabH),
      ([0b1101110000#10], .anlTabL),
      ([0b1101110001#10, 0b0000001001#10], .anlData4 9),
      ([0b1110100101#10], .orlR0n 5),
      ([0b1110000101#10], .orlR1n 5),
      ([0b1110010000#10], .orlTabH),
      ([0b1110110000#10], .orlTabL),
      ([0b1110110001#10, 0b0000001001#10], .orlData4 9),
      ([0b1010100101#10], .xrlR0n 5),
      ([0b1010000101#10], .xrlR1n 5),
      ([0b1010010000#10], .xrlTabH),
      ([0b1010110000#10], .xrlTabL),
      ([0b1010110001#10, 0b0000001001#10], .xrlData4 9),
      ([0b1010010011#10], .incA),
      ([0b1110010011#10], .rlA),
      ([0b1111010011#10], .rlzA)
    ] : List (List Word10 × Instr)).all (fun x => decodesTo x.1 x.2) = true := by
  decide

/-- Words of spec/opcode_table.json (R121) with n = 5, data4 = 9H, data8 = 5AH, data10 = 232H, addr = 2AAH. -/
theorem test_decode_input_output :
    ([
      ([0b1111111000#10], .inP00),
      ([0b1111111001#10], .inP01),
      ([0b1111111011#10], .inP03),
      ([0b1111111100#10], .inP04),
      ([0b1111011000#10], .inP10),
      ([0b1111011001#10], .inP11),
      ([0b1111011011#10], .inP13),
      ([0b1111011100#10], .inP14),
      ([0b0010111000#10], .outP00),
      ([0b0010111001#10], .outP01),
      ([0b0010111011#10], .outP03),
      ([0b0010111100#10], .outP04),
      ([0b0010011000#10], .outP10),
      ([0b0010011001#10], .outP11),
      ([0b0010011011#10], .outP13),
      ([0b0010011100#10], .outP14),
      ([0b0011011000#10, 0b0010101010#10], .outP0Data8 0x5A),
      ([0b0011011001#10, 0b0010101010#10], .outP1Data8 0x5A),
      ([0b0011011011#10, 0b0010101010#10], .outP3Data8 0x5A),
      ([0b0011011100#10, 0b0010101010#10], .outP4Data8 0x5A)
    ] : List (List Word10 × Instr)).all (fun x => decodesTo x.1 x.2) = true := by
  decide

/-- Words of spec/opcode_table.json (R121) with n = 5, data4 = 9H, data8 = 5AH, data10 = 232H, addr = 2AAH. -/
theorem test_decode_port_logic :
    ([
      ([0b1101111000#10], .anlP00),
      ([0b1101111001#10], .anlP01),
      ([0b1101111011#10], .anlP03),
      ([0b1101111100#10], .anlP04),
      ([0b1101011000#10], .anlP10),
      ([0b1101011001#10], .anlP11),
      ([0b1101011011#10], .anlP13),
      ([0b1101011100#10], .anlP14),
      ([0b1110111000#10], .orlP00),
      ([0b1110111001#10], .orlP01),
      ([0b1110111011#10], .orlP03),
      ([0b1110111100#10], .orlP04),
      ([0b1110011000#10], .orlP10),
      ([0b1110011001#10], .orlP11),
      ([0b1110011011#10], .orlP13),
      ([0b1110011100#10], .orlP14),
      ([0b1010111000#10], .xrlP00),
      ([0b1010111001#10], .xrlP01),
      ([0b1010111011#10], .xrlP03),
      ([0b1010111100#10], .xrlP04),
      ([0b1010011000#10], .xrlP10),
      ([0b1010011001#10], .xrlP11),
      ([0b1010011011#10], .xrlP13),
      ([0b1010011100#10], .xrlP14)
    ] : List (List Word10 × Instr)).all (fun x => decodesTo x.1 x.2) = true := by
  decide

/-- Words of spec/opcode_table.json (R121) with n = 5, data4 = 9H, data8 = 5AH, data10 = 232H, addr = 2AAH. -/
theorem test_decode_transfer :
    ([
      ([0b1111100101#10], .movAR0n 5),
      ([0b1111000101#10], .movAR1n 5),
      ([0b1111010000#10], .movATabH),
      ([0b1111110000#10], .movATabL),
      ([0b1111110001#10, 0b0000001001#10], .movAData4 9),
      ([0b0010100101#10], .movR0nA 5),
      ([0b0010000101#10], .movR1nA 5),
      ([0b0011000101#10, 0b0010101010#10], .movRnData8 5 0x5A),
      ([0b0011100101#10], .movRnTab 5)
    ] : List (List Word10 × Instr)).all (fun x => decodesTo x.1 x.2) = true := by
  decide

/-- Words of spec/opcode_table.json (R121) with n = 5, data4 = 9H, data8 = 5AH, data10 = 232H, addr = 2AAH. -/
theorem test_decode_branch :
    ([
      ([0b0100010001#10, 0b1101001010#10], .jmpPage0 0x2AA),
      ([0b0100110001#10, 0b1101001010#10], .jmpPage1 0x2AA),
      ([0b0100010100#10, 0b1101001010#10], .jmpPage2 0x2AA),
      ([0b0100110100#10, 0b1101001010#10], .jmpPage3 0x2AA),
      ([0b0110010001#10, 0b1101001010#10], .jcPage0 0x2AA),
      ([0b0101010001#10, 0b1101001010#10], .jcPage1 0x2AA),
      ([0b0110010100#10, 0b1101001010#10], .jcPage2 0x2AA),
      ([0b0101010100#10, 0b1101001010#10], .jcPage3 0x2AA),
      ([0b0110110001#10, 0b1101001010#10], .jncPage0 0x2AA),
      ([0b0101110001#10, 0b1101001010#10], .jncPage1 0x2AA),
      ([0b0110110100#10, 0b1101001010#10], .jncPage2 0x2AA),
      ([0b0101110100#10, 0b1101001010#10], .jncPage3 0x2AA),
      ([0b0111010001#10, 0b1101001010#10], .jfPage0 0x2AA),
      ([0b1000010001#10, 0b1101001010#10], .jfPage1 0x2AA),
      ([0b0111010100#10, 0b1101001010#10], .jfPage2 0x2AA),
      ([0b1000010100#10, 0b1101001010#10], .jfPage3 0x2AA),
      ([0b0111110001#10, 0b1101001010#10], .jnfPage0 0x2AA),
      ([0b1000110001#10, 0b1101001010#10], .jnfPage1 0x2AA),
      ([0b0111110100#10, 0b1101001010#10], .jnfPage2 0x2AA),
      ([0b1000110100#10, 0b1101001010#10], .jnfPage3 0x2AA)
    ] : List (List Word10 × Instr)).all (fun x => decodesTo x.1 x.2) = true := by
  decide

/-- Words of spec/opcode_table.json (R121) with n = 5, data4 = 9H, data8 = 5AH, data10 = 232H, addr = 2AAH. -/
theorem test_decode_subroutine :
    ([
      ([0b0011010010#10, 0b0100010001#10, 0b1101001010#10], .callPage0 0x2AA),
      ([0b0011010010#10, 0b0100110001#10, 0b1101001010#10], .callPage1 0x2AA),
      ([0b0011010010#10, 0b0100010100#10, 0b1101001010#10], .callPage2 0x2AA),
      ([0b0011010010#10, 0b0100110100#10, 0b1101001010#10], .callPage3 0x2AA),
      ([0b0100010010#10], .ret)
    ] : List (List Word10 × Instr)).all (fun x => decodesTo x.1 x.2) = true := by
  decide

/-- Words of spec/opcode_table.json (R121) with n = 5, data4 = 9H, data8 = 5AH, data10 = 232H, addr = 2AAH. -/
theorem test_decode_timer :
    ([
      ([0b1111111111#10], .movAT0),
      ([0b1111011111#10], .movAT1),
      ([0b1111110110#10], .movAM00),
      ([0b1111010110#10], .movAM01),
      ([0b1111110111#10], .movAM10),
      ([0b1111010111#10], .movAM11),
      ([0b0010111111#10], .movT0A),
      ([0b0010011111#10], .movT1A),
      ([0b0010110110#10], .movM00A),
      ([0b0010010110#10], .movM01A),
      ([0b0010110111#10], .movM10A),
      ([0b0010010111#10], .movM11A),
      ([0b0011011111#10, 0b1100001100#10], .movTData10 0x232),
      ([0b0011010110#10, 0b1100001100#10], .movM0Data10 0x232),
      ([0b0011010111#10, 0b1100001100#10], .movM1Data10 0x232),
      ([0b0011111111#10], .movTTab),
      ([0b0011110110#10], .movM0Tab),
      ([0b0011110111#10], .movM1Tab)
    ] : List (List Word10 × Instr)).all (fun x => decodesTo x.1 x.2) = true := by
  decide

/-- Words of spec/opcode_table.json (R121) with n = 5, data4 = 9H, data8 = 5AH, data10 = 232H, addr = 2AAH. -/
theorem test_decode_others :
    ([
      ([0b0001010001#10, 0b0000001001#10], .haltData4 9),
      ([0b0001110001#10, 0b0000001001#10], .sttsData4 9),
      ([0b0001100101#10], .sttsR0n 5),
      ([0b1101010011#10], .scaf),
      ([0b0000000000#10], .nop)
    ] : List (List Word10 × Instr)).all (fun x => decodesTo x.1 x.2) = true := by
  decide

/-- 95_test_vectors.md, section 2.8. -/
theorem test_decode_refused :
    ([([0b0011100000], .undefinedWord), ([0b1010011111], .undefinedWord), ([0b1111111010], .undefinedWord),
      ([0b0001110000], .undefinedWord), ([0b0011010010, 0b0000000000], .callPrefix),
      ([0b1101110001, 0b1000001001], .operandBits), ([0b0011000011, 0b0000010000], .operandBits)
      ] : List (List Word10 × DecodeError)).all (fun x => decodeRefuses x.1 x.2) = true := by
  decide

/-- 95_test_vectors.md, section 2.5: the addr word of 2AAH and of 100H in both layouts. -/
theorem test_addr_layouts :
    addrOf .split 0b1101001010 = 0x2AA ∧ addrOf .straight 0b1010101010 = 0x2AA ∧
      addrOf .split 0b0000010000 = 0x100 ∧ addrOf .straight 0b0100000000 = 0x100 := by
  decide

/-- R111: example <1> of the source and `OUT P0,#5AH`. -/
theorem test_asm16 :
    asm16 0b1101010000 = 0xFAF0 ∧ asm16 0b0011011000 = 0xE6F8 ∧ asm16 0b0010101010 = 0xE5EA ∧
      ofAsm16 0x7AF0 = none := by
  decide

/-- `ANL A,#09H` numbered as spec/opcode_table.json numbers it: the second word is bits 19 to 10. -/
theorem test_decodeTableWord :
    decodeTableWord 24 (0b1101110001 + 0b0000001001 * 1024) = some (.anlData4 9) ∧
      decodeTableWord 16 0b0011011111 = some (.movTData10 0) ∧ decodeTableWord 16 0b0011100000 = none := by
  decide

/-! ## One step -/

/-- A machine that runs, next instruction at 010H. -/
def ready : State := { State.reset with mode := .run, pc := 0x010 }

/-- Data memory with these cells listed. -/
def cells (ram : List (Nat × Nibble)) : Memory := { rom := [], ram := ram }

/-- DP = 040H and this word there. -/
def table (w : Word10) : Memory := { rom := [(0x40, w)], ram := [(0x10, 4)] }

/-- Levels at the pins K_I, K_I/O, S0, S1 and S2. -/
def pins (ki : Nibble) (kio : Octet) (s0 s1 s2 : Bool) : Env :=
  { State.reset.env with pins := { ki := ki, kio := kio, s0 := s0, s1 := s1, s2 := s2 } }

/-- The default parameters with this part. -/
def part (p : Part) : Params := { State.reset.params with part := p }

/-- The state with the instruction of these 16-bit forms at 010H. -/
def holding (hex : List (BitVec 16)) (s : State) : State :=
  { s with mem := storeWords s.params.part s.pc 0 (hex.filterMap ofAsm16) s.mem }

/-- The outcome is a next state with this property. -/
def nextHas (o : Out) (p : State → Bool) : Bool :=
  match o with
  | .next t => p t
  | _ => false

/-- The outcome is this refusal. -/
def refuses (o : Out) (r : Refusal) : Bool :=
  match o with
  | .refused x => x == r
  | _ => false

/-- The outcome is this fault. -/
def faults (o : Out) (r : Fault) : Bool :=
  match o with
  | .fault x => x == r
  | _ => false

theorem test_anl_r0n :
    nextHas (step (holding [0xFBE5] { ready with a := 0xC, mem := cells [(0x05, 0xA)] }))
      (fun t => t.a == 8 && t.cy) = true := by
  decide

theorem test_anl_r1n :
    nextHas (step (holding [0xFAE3] { ready with a := 7, cy := true, mem := cells [(0x13, 0xF)] }))
      (fun t => t.a == 7 && !t.cy) = true := by
  decide

theorem test_anl_data4 :
    nextHas (step (holding [0xFBF1, 0xE0E8] { ready with a := 7 }))
      (fun t => t.a == 0 && !t.cy && t.pc == 0x012) = true := by
  decide

theorem test_anl_table_high :
    nextHas (step (holding [0xFAF0] { ready with a := 0xF, mem := table 0b1101010110 }))
      (fun t => t.a == 0xA && t.cy) = true := by
  decide

theorem test_anl_table_low :
    nextHas (step (holding [0xFBF0] { ready with a := 0xF, mem := table 0b0101000110 }))
      (fun t => t.a == 6 && !t.cy) = true := by
  decide

theorem test_orl_r1n :
    nextHas (step (holding [0xFCE3] { ready with a := 5, cy := true, mem := cells [(0x13, 2)] }))
      (fun t => t.a == 7 && !t.cy) = true := by
  decide

theorem test_orl_data4 :
    nextHas (step (holding [0xFDF1, 0xE0E3] { ready with a := 8 }))
      (fun t => t.a == 0xB && !t.cy) = true := by
  decide

theorem test_orl_table_low :
    nextHas (step (holding [0xFDF0] { ready with a := 1, mem := table 0b0101000110 }))
      (fun t => t.a == 7 && !t.cy) = true := by
  decide

theorem test_xrl_r0n :
    nextHas (step (holding [0xF5E2] { ready with a := 0xC, mem := cells [(0x02, 9)] }))
      (fun t => t.a == 5 && t.cy) = true := by
  decide

theorem test_xrl_data4 :
    nextHas (step (holding [0xF5F1, 0xE0EF] { ready with a := 0xA }))
      (fun t => t.a == 5 && t.cy) = true := by
  decide

theorem test_xrl_table_high :
    nextHas (step (holding [0xF4F0] { ready with a := 0xF, mem := table 0b0101000110 }))
      (fun t => t.a == 5 && t.cy) = true := by
  decide

theorem test_inc_wraps :
    nextHas (step (holding [0xF4F3] { ready with a := 0xF }))
      (fun t => t.a == 0 && t.cy) = true := by
  decide

theorem test_inc_no_carry :
    nextHas (step (holding [0xF4F3] { ready with a := 7, cy := true }))
      (fun t => t.a == 8 && !t.cy) = true := by
  decide

theorem test_rl_bit3 :
    nextHas (step (holding [0xFCF3] { ready with a := 9 }))
      (fun t => t.a == 3 && t.cy) = true := by
  decide

theorem test_rlz_not_zero :
    nextHas (step (holding [0xFEF3] { ready with a := 8 }))
      (fun t => t.a == 1 && t.cy && t.pc == 0x011) = true := by
  decide

theorem test_rlz_zero :
    nextHas (step (holding [0xFEF3] { ready with a := 0, f := true, sp := 1 }))
      (fun t => t.pc == 0 && t.sp == 0 && !t.f && t.mode == .resetWait false) = true := by
  decide

theorem test_in_p04 :
    nextHas (step (holding [0xFFFC] { ready with cy := true }))
      (fun t => t.a == 6 && !t.cy) = true := by
  decide

theorem test_in_p14 :
    nextHas (step (holding [0xFEFC] { ready with cy := true }))
      (fun t => t.a == 2 && !t.cy) = true := by
  decide

theorem test_in_p00_latch :
    nextHas (step (holding [0xFFF8] { ready with p0Latch := 0x5A }))
      (fun t => t.a == 0xA) = true := by
  decide

theorem test_in_p00_pins :
    nextHas (step (holding [0xFFF8] { ready with p4 := 0x24, env := pins 0 0x85 false false false }))
      (fun t => t.a == 5) = true := by
  decide

theorem test_in_p10_pins :
    nextHas (step (holding [0xFEF8] { ready with p4 := 0x24, env := pins 0 0x85 false false false }))
      (fun t => t.a == 8) = true := by
  decide

theorem test_in_p01_reset :
    nextHas (step (holding [0xFFF9] { ready with cy := true }))
      (fun t => t.a == 0xD && !t.cy) = true := by
  decide

theorem test_in_p01_led_low :
    nextHas (step (holding [0xFFF9] { ready with t := 0x205, trun := true }))
      (fun t => t.a == 5 && t.t == 0x204) = true := by
  decide

theorem test_in_p01_s1 :
    nextHas (step (holding [0xFFF9] { ready with p4 := 0x22 }))
      (fun t => t.a == 5) = true := by
  decide

theorem test_in_p01_s0 :
    nextHas (step (holding [0xFFF9] { ready with p4 := 0x27 }))
      (fun t => t.a == 9) = true := by
  decide

theorem test_in_p11 :
    nextHas (step (holding [0xFEF9] { ready with env := pins 4 0 false false false }))
      (fun t => t.a == 4) = true := by
  decide

theorem test_out_p00 :
    nextHas (step (holding [0xE5F8] { ready with a := 5 }))
      (fun t => t.p0Latch == 0xF5 && t.a == 5) = true := by
  decide

theorem test_out_p10 :
    nextHas (step (holding [0xE4F8] { ready with a := 5 }))
      (fun t => t.p0Latch == 0x5F) = true := by
  decide

theorem test_out_p01 :
    nextHas (step (holding [0xE5F9] { ready with a := 5 }))
      (fun t => t.p0Latch == 0xFF && t.p3 == 0 && t.p4 == 0x26) = true := by
  decide

theorem test_out_p03_upd69 :
    nextHas (step (holding [0xE5FB] { ready with a := 0xF }))
      (fun t => t.p3 == 0x0B) = true := by
  decide

theorem test_out_p03_upd67 :
    nextHas (step (holding [0xE5FB] { ready with a := 0xF, params := part .upd67 }))
      (fun t => t.p3 == 0x08) = true := by
  decide

theorem test_out_p13 :
    nextHas (step (holding [0xE4FB] { ready with a := 3 }))
      (fun t => t.p3 == 0x30 && dataPointer t == 0x300) = true := by
  decide

theorem test_out_p14 :
    nextHas (step (holding [0xE4FC] { ready with a := 0xF }))
      (fun t => t.p4 == 0x36) = true := by
  decide

theorem test_anl_p01 :
    nextHas (step (holding [0xFBF9] { ready with a := 0xF }))
      (fun t => t.a == 0xD && t.cy) = true := by
  decide

theorem test_orl_p04 :
    nextHas (step (holding [0xFDFC] { ready with a := 8, cy := true }))
      (fun t => t.a == 0xE && !t.cy) = true := by
  decide

theorem test_xrl_p14 :
    nextHas (step (holding [0xF4FC] { ready with a := 0xF }))
      (fun t => t.a == 0xD && !t.cy) = true := by
  decide

theorem test_out_p4_data8 :
    nextHas (step (holding [0xE6FC, 0xEFEF] ready))
      (fun t => t.p4 == 0x3F) = true := by
  decide

theorem test_out_p3_data8 :
    nextHas (step (holding [0xE6FB, 0xEFEF] ready))
      (fun t => t.p3 == 0xFB) = true := by
  decide

theorem test_out_p0_data8 :
    nextHas (step (holding [0xE6F8, 0xE5EA] ready))
      (fun t => t.p0Latch == 0x5A) = true := by
  decide

theorem test_mov_a_r1n :
    nextHas (step (holding [0xFEEA] { ready with cy := true, mem := cells [(0x1A, 3)] }))
      (fun t => t.a == 3 && !t.cy) = true := by
  decide

theorem test_mov_a_table_low :
    nextHas (step (holding [0xFFF0] { ready with p3 := 0x10, mem := { rom := [(0x140, 0b0001101100)], ram := [(0x10, 4)] } }))
      (fun t => t.a == 0xC) = true := by
  decide

theorem test_mov_a_table_high :
    nextHas (step (holding [0xFEF0] { ready with cy := true, mem := table 0b0101000110 }))
      (fun t => t.a == 0xA && !t.cy) = true := by
  decide

theorem test_mov_a_data4 :
    nextHas (step (holding [0xFFF1, 0xE0EC] { ready with cy := true }))
      (fun t => t.a == 0xC && !t.cy) = true := by
  decide

theorem test_mov_r1n_a :
    nextHas (step (holding [0xE4E0] { ready with a := 7, cy := true }))
      (fun t => readCell 1 0 t == 7 && readCell 0 0 t == 0 && t.cy) = true := by
  decide

theorem test_mov_r0f_a :
    nextHas (step (holding [0xE5EF] { ready with a := 7, mem := cells [(0x0F, 3), (0x1F, 1)] }))
      (fun t => readCell 0 15 t == 7 && readCell 1 15 t == 1) = true := by
  decide

theorem test_mov_rn_data8 :
    nextHas (step (holding [0xE6E3, 0xE5EA] { ready with cy := true }))
      (fun t => readCell 1 3 t == 5 && readCell 0 3 t == 0xA && t.cy) = true := by
  decide

theorem test_mov_rn_table :
    nextHas (step (holding [0xE7E2] { ready with mem := table 0b1111111111 }))
      (fun t => readCell 1 2 t == 0xF && readCell 0 2 t == 0xF) = true := by
  decide

theorem test_mov_r3_page_1 :
    nextHas (step (holding [0xE6E3, 0xE5EA] { ready with p3 := 0x01 }))
      (fun t => t.mem.readRam 0x23 == 0xA && t.mem.readRam 0x33 == 5 && t.mem.readRam 0x03 == 0) = true := by
  decide

theorem test_mov_a_t1 :
    nextHas (step (holding [0xFEFF] { ready with t := 0x232, trun := true }))
      (fun t => t.a == 8 && t.t == 0x231) = true := by
  decide

theorem test_mov_a_t0 :
    nextHas (step (holding [0xFFFF] { ready with t := 0x232, trun := true }))
      (fun t => t.a == 0xC && t.t == 0x231) = true := by
  decide

theorem test_mov_a_m01 :
    nextHas (step (holding [0xFEF6] { ready with m0 := 0x089 }))
      (fun t => t.a == 2) = true := by
  decide

theorem test_mov_a_m11 :
    nextHas (step (holding [0xFEF7] { ready with m1 := 0x245 }))
      (fun t => t.a == 9) = true := by
  decide

theorem test_mov_a_m10 :
    nextHas (step (holding [0xFFF7] { ready with m1 := 0x245 }))
      (fun t => t.a == 1) = true := by
  decide

theorem test_mov_t1_a :
    nextHas (step (holding [0xE4FF] { ready with t := 0x3FF, trun := true }))
      (fun t => t.t == 0x03D && t.trun) = true := by
  decide

theorem test_mov_t0_a :
    nextHas (step (holding [0xE5FF] { ready with t := 0x3FF, trun := true }))
      (fun t => t.t == 0x3C2 && t.trun) = true := by
  decide

theorem test_mov_m01_a :
    nextHas (step (holding [0xE4F6] { ready with a := 0xA, m0 := 0x003 }))
      (fun t => t.m0 == 0x081) = true := by
  decide

theorem test_mov_m00_a :
    nextHas (step (holding [0xE5F6] { ready with a := 2, m0 := 0x083 }))
      (fun t => t.m0 == 0x08A) = true := by
  decide

theorem test_mov_m11_a :
    nextHas (step (holding [0xE4F7] { ready with a := 9, m1 := 0x045 }))
      (fun t => t.m1 == 0x245) = true := by
  decide

theorem test_mov_m10_a :
    nextHas (step (holding [0xE5F7] { ready with a := 0xF, m1 := 0x003 }))
      (fun t => t.m1 == 0x03E) = true := by
  decide

theorem test_mov_t_data10 :
    nextHas (step (holding [0xE6FF, 0xF8EC] ready))
      (fun t => t.t == 0x232 && t.trun) = true := by
  decide

theorem test_mov_m0_data10 :
    nextHas (step (holding [0xE6F6, 0xFFFF] ready))
      (fun t => t.m0 == 0x1FF) = true := by
  decide

theorem test_mov_m1_data10 :
    nextHas (step (holding [0xE6F7, 0xE9F1] ready))
      (fun t => t.m1 == 0x245) = true := by
  decide

theorem test_mov_t_table :
    nextHas (step (holding [0xE7FF] { ready with mem := table 0b1100001100 }))
      (fun t => t.t == 0x232 && t.trun) = true := by
  decide

theorem test_mov_m1_table :
    nextHas (step (holding [0xE7F7] { ready with mem := table 0b0000110001 }))
      (fun t => t.m1 == 0x045) = true := by
  decide

theorem test_mov_m0_table :
    nextHas (step (holding [0xE7F6] { ready with mem := table 0b0001010010 }))
      (fun t => t.m0 == 0x089) = true := by
  decide

theorem test_nop_last_count :
    nextHas (step (holding [0xE0E0] { ready with t := 0x200, trun := true }))
      (fun t => t.t == 0x200 && !t.trun && t.pc == 0x011) = true := by
  decide

theorem test_jmp :
    nextHas (step (holding [0xE8F1, 0xE0E8] ready))
      (fun t => t.pc == 0x008) = true := by
  decide

theorem test_jc_taken :
    nextHas (step (holding [0xECF1, 0xE0E8] { ready with cy := true }))
      (fun t => t.pc == 0x008) = true := by
  decide

theorem test_jnc_not_taken :
    nextHas (step (holding [0xEDF1, 0xE0E8] { ready with cy := true }))
      (fun t => t.pc == 0x012) = true := by
  decide

theorem test_jf_not_taken :
    nextHas (step (holding [0xEEF1, 0xE0E8] ready))
      (fun t => t.pc == 0x012) = true := by
  decide

theorem test_jnf_taken :
    nextHas (step (holding [0xEFF1, 0xE0E8] ready))
      (fun t => t.pc == 0x008) = true := by
  decide

theorem test_jmp_555h :
    nextHas (step (holding [0xE9F1, 0xE5F5] { ready with params := part .upd68 }))
      (fun t => t.pc == 0x555) = true := by
  decide

theorem test_jmp_fe9h :
    nextHas (step (holding [0xE9F4, 0xFEF9] ready))
      (fun t => t.pc == 0xFE9) = true := by
  decide

theorem test_call :
    nextHas (step (holding [0xE6F2, 0xE8F1, 0xE0E8] { ready with t := 0x205, trun := true }))
      (fun t => t.sp == 1 && t.pc == 0x008 && asrValue t == 0x013 && t.t == 0x203) = true := by
  decide

theorem test_call_overflow :
    nextHas (step (holding [0xE6F2, 0xE8F1, 0xE0E8] { ready with sp := 1 }))
      (fun t => t.sp == 0 && t.pc == 0 && t.mode == .resetWait false) = true := by
  decide

theorem test_ret :
    nextHas (step (holding [0xE8F2] { ready with sp := 1, mem := cells [(0x0F, 7), (0x1F, 1)], asrHigh := 3 }))
      (fun t => t.pc == 0x317 && t.sp == 0 && t.asrHigh == 3) = true := by
  decide

theorem test_ret_underflow :
    nextHas (step (holding [0xE8F2] { ready with a := 5 }))
      (fun t => t.pc == 0 && t.mode == .resetWait false) = true := by
  decide

theorem test_stts_ki :
    nextHas (step (holding [0xE3F1, 0xE0E3] { ready with env := pins 2 0 false false false }))
      (fun t => t.f) = true := by
  decide

theorem test_stts_timer_and_s2 :
    nextHas (step (holding [0xE3F1, 0xE0ED] { ready with t := 5, p4 := 0x2E, env := pins 0 0 false false true }))
      (fun t => t.f) = true := by
  decide

theorem test_stts_r0n :
    nextHas (step (holding [0xE3E5] { ready with t := 1, trun := true, f := true, mem := cells [(0x05, 5)] }))
      (fun t => !t.f && t.t == 0) = true := by
  decide

theorem test_halt_timer :
    nextHas (step (holding [0xE2F1, 0xE0E5] { ready with t := 5, trun := true }))
      (fun t => t.mode == .halt 5 && t.t == 4 && t.pc == 0x012) = true := by
  decide

theorem test_halt_stop :
    nextHas (step (holding [0xE2F1, 0xE0E6] { ready with t := 0x205, trun := true, p0Latch := 0x01 }))
      (fun t => t.mode == .stop 6 && t.t == 0 && !t.trun && t.pc == 0x012) = true := by
  decide

theorem test_scaf_run :
    nextHas (step (holding [0xFAF3] { ready with a := 0xB, cy := true }))
      (fun t => t.a == 3 && !t.cy) = true := by
  decide

theorem test_scaf_all :
    nextHas (step (holding [0xFAF3] { ready with a := 0xF }))
      (fun t => t.a == 0xF && t.cy) = true := by
  decide

/-! ## Steps without an instruction, and stops -/

/-- R352: the first step after power-on leaves the reset wait, PC at 000H. -/
theorem test_reset_wait_ends : nextHas (step State.reset) (fun t => t.mode == .run && t.pc == 0) = true := by
  decide

/-- R343: the instruction after HALT runs in the cycle in which the counter is found 0. -/
theorem test_halt_release :
    nextHas (step (holding [0xE0E0] { ready with mode := .halt 5, t := 0x200, trun := true }))
      (fun t => t.f && t.mode == .run && t.pc == 0x011 && t.t == 0x200 && !t.trun) = true := by
  decide

/-- R345: a high K_I pin ends STOP mode; no instruction runs in the wait. -/
theorem test_stop_release :
    nextHas (step { ready with mode := .stop 3, env := pins 2 0 false false false })
      (fun t => t.f && t.mode == .run && t.pc == 0x010 && t.afterStop) = true := by
  decide

/-- 95_test_vectors.md, section 3.4 (d): R280. -/
theorem test_not_nop_after_stop :
    refuses (step (holding [0xFEF9] { ready with afterStop := true })) .notNopAfterStop = true := by
  decide

/-- 95_test_vectors.md, section 1.2: the flag survives a POC reset above V_ID. -/
theorem test_poc_keeps_flag :
    nextHas (step { ready with p3 := 0x1B, mem := cells [(0x05, 9), (0x10, 4)],
                               env := { ready.env with supply := .belowPoc } })
      (fun t => t.p3 == 0x08 && t.mem.readRam 0x05 == 9 && t.mem.readRam 0x10 == 0) = true := by
  decide

/-- 95_test_vectors.md, section 1.2: the flag is cleared below V_ID. -/
theorem test_poc_loses_flag :
    nextHas (step { ready with p3 := 0x1B, env := { ready.env with supply := .belowVid } })
      (fun t => t.p3 == 0 && t.pc == 0 && t.mode == .resetWait true) = true := by
  decide

/-- 95_test_vectors.md, section 2.5: the unmounted area faults at the fetch, a missing page is refused. -/
theorem test_unmounted_fetch :
    faults (step { ready with pc := 0x3EA, params := part .upd67 }) .fetchOutsideMounted = true := by
  decide

theorem test_jmp_page_1_upd67 :
    refuses (step (holding [0xE9F1, 0xE0E0] { ready with params := part .upd67 })) .pageNotOnPart = true := by
  decide

/-- R329, with CARY = 1: REM is high in the cycle after `MOV T,#200H`, low after the next count. -/
theorem test_one_cycle_pulse :
    remOutput { ready with t := 0x200, trun := true, m1 := 0x245 } = .high ∧
      remOutput (tick { ready with t := 0x200, trun := true, m1 := 0x245 }) = .low := by
  decide

/-- R326: after a steady output no high phase is left; a carrier's started high phase is completed, although M1 has
CARY = 1 by then. -/
theorem test_rem_after_the_output :
    remOutput { tick { ready with t := 0x200, trun := true, m1 := 0x245,
                                  carrier := { Carrier.idle with high := true, count := 9 } } with m1 := 0x045 } = .low ∧
      remOutput { ready with m1 := 0x245, carrier := { Carrier.idle with high := true, count := 9 } } =
        .carrier true := by
  decide

/-- R352, R374: the K_I pins count when the supply has risen, not when the oscillator's wait ends. -/
theorem test_ki_high_at_the_rise :
    refuses (step { State.reset with inputs := [{ pins 0xF 0 false false false with oscStable := false },
                                                State.reset.env] }) .kiHighAtPocRelease = true := by
  decide

theorem test_ki_high_after_the_rise :
    nextHas (step { State.reset with mode := .resetWait false, inputs := [pins 0xF 0 false false false] })
      (fun t => t.mode == .run) = true := by
  decide

/-- R395 (a): END_ADDR right after a HALT is an end in the step that releases the HALT; R6: an unmounted address is
none. -/
theorem test_end_after_halt :
    atEnd (some 0x010) { ready with mode := .halt 5, t := 0x200 } = true ∧
      atEnd (some 0x010) { ready with mode := .halt 5, t := 0x201 } = false ∧
      atEnd (some 0x3EA) { ready with pc := 0x3EA, params := part .upd67 } = false ∧
      atEnd (some 0x3E9) { ready with pc := 0x3E9, params := part .upd67 } = true := by
  decide

/-- 95_test_vectors.md, section 1.5: MOD1 = 45H and MOD0 = 89H give 26 µs, which is 208 carrier clocks. -/
theorem test_carrier_period : carrierPeriodClocks 0x89 0x45 = 208 := by decide

/-! ## A word placed where the step fetches -/

/-- `MOV A,#0CH` placed after reset is the very next instruction. -/
theorem test_withFetchWord :
    nextHas (step (State.reset.withFetchWord 24 (0b1111110001 + 0b0000001100 * 1024)))
      (fun t => t.a == 0xC && t.pc == 2) = true := by
  decide

/-! ## Witnesses: for each statement with hypotheses, terms that meet them -/

theorem witness_DecodeOfEncode : (Instr.movRnTab 15).wellFormed = true := by decide

theorem witness_EncodeOfDecode :
    decode .split [0b0011010010, 0b0100110100, 0b1101001010, 5] = .ok (.callPage3 0x2AA, [5]) := rfl

theorem witness_UndefinedWordsRefused :
    (0b1001000000#10).extractLsb' 6 4 ∈ [0b1001#4, 0b1011#4, 0b1100#4] ∧
      (0b1111111110#10).extractLsb' 0 5 ∈ [0b11010#5, 0b11101#5, 0b11110#5] ∧
      0b0000000000#10 ∉ [0b0100010001#10, 0b0100110001#10, 0b0100010100#10, 0b0100110100#10] ∧
      decodeFirst 0b0000000001#10 = none :=
  ⟨by decide, by decide, by decide, rfl⟩

/-- The largest data4 word that has no bit set above bit 3, and the next word; the last bit of a nibble. -/
theorem witness_OperandWordLayouts : (0b0000001111#10).toNat < 16 ∧ ¬ (0b0000010000#10).toNat < 16 ∧ 3 < 4 := by
  decide

theorem witness_AssemblerForm : ofAsm16 0xFAF0 = some 0b1101010000 := by decide

/-- `ANL A,#9` at 010H. -/
def holdsAnl : State := holding [0xFBF1, 0xE0E9] ready

theorem witness_FetchReadsEncoding :
    (Instr.anlData4 9).wellFormed = true ∧
      ∀ k w, (encode holdsAnl.params.layout (.anlData4 9))[k]? = some w →
        mounted holdsAnl.params.part (holdsAnl.nextPc k) = true ∧
          holdsAnl.mem.readRom (holdsAnl.nextPc k).toNat = some w := by
  refine ⟨rfl, fun k w h => ?_⟩
  rcases k with _ | _ | k
  · cases h; decide
  · cases h; decide
  · cases h

theorem witness_StepRunsDecoded :
    holdsAnl.mode = .run ∧ (sample holdsAnl).env.supply = .normal ∧
      fetchInstr (sample holdsAnl) = .ok (.anlData4 9) ∧ (holdsAnl.afterStop = true → .anlData4 9 = Instr.nop) :=
  ⟨rfl, rfl, by decide, by decide⟩

/-- The last mounted address and the first unmounted one of the µPD69, for each word of an instruction. -/
theorem witness_FetchStops_operands :
    (let s := holding [0xFBF1] { ready with pc := 0xFE9 }
     s.mode = .run ∧ (sample s).env.supply = .normal ∧ Sys2Proof.Claims.wordAt s 0 0b1101110001 ∧
       decodeFirst 0b1101110001 = some (.data4 .anlData4) ∧ mounted s.params.part (s.nextPc 1) = false) ∧
    (let s := holding [0xFBF1] { ready with pc := 0xFE8 }
     Sys2Proof.Claims.wordAt s 0 0b1101110001 ∧ mounted s.params.part (s.nextPc 1) = true ∧
       s.mem.readRom (s.nextPc 1).toNat = none) ∧
    (let s := holding [0xE6F2, 0xE8F1] { ready with pc := 0xFE8 }
     Sys2Proof.Claims.wordAt s 0 0b0011010010 ∧ Sys2Proof.Claims.wordAt s 1 0b0100010001 ∧
       mounted s.params.part (s.nextPc 2) = false) ∧
    (let s := holding [0xE6F2, 0xE8F1] ready
     Sys2Proof.Claims.wordAt s 0 0b0011010010 ∧ Sys2Proof.Claims.wordAt s 1 0b0100010001 ∧
       mounted s.params.part (s.nextPc 2) = true ∧ s.mem.readRom (s.nextPc 2).toNat = none) ∧
    (let s := holding [0xE6F2, 0xE0E0, 0xE0E0] ready
     Sys2Proof.Claims.wordAt s 0 0b0011010010 ∧ Sys2Proof.Claims.wordAt s 1 0 ∧ Sys2Proof.Claims.wordAt s 2 0) ∧
    (let s := holding [0xFBF1, 0xE0F0] ready
     Sys2Proof.Claims.wordAt s 0 0b1101110001 ∧ Sys2Proof.Claims.wordAt s 1 0x10 ∧ 16 ≤ (0x10 : Word10).toNat) ∧
    (let s := holding [0xE6E3, 0xE0F0] ready
     Sys2Proof.Claims.wordAt s 0 0b0011000011 ∧ Sys2Proof.Claims.wordAt s 1 0x10 ∧
       (0b0011000011 : Word10).extractLsb' 4 6 = 0b001100#6 ∧ (0x10 : Word10).getLsbD 4 = true) :=
  ⟨⟨rfl, rfl, by decide, rfl, by decide⟩, by decide, by decide, by decide, by decide, by decide, by decide⟩

/-- The last mounted address and the first unmounted one of the µPD69; an undefined word; STOP mode just left. -/
theorem witness_FetchStops :
    (let s := { ready with pc := 0xFEA }
     s.mode = .run ∧ (sample s).env.supply = .normal ∧ mounted s.params.part (s.nextPc 0) = false) ∧
    (let s := { ready with pc := 0xFE9 }
     s.mode = .run ∧ (sample s).env.supply = .normal ∧ mounted s.params.part (s.nextPc 0) = true ∧
       s.mem.readRom (s.nextPc 0).toNat = none) ∧
    (let s := holding [0xE7E0] ready
     s.mode = .run ∧ (sample s).env.supply = .normal ∧ mounted s.params.part (s.nextPc 0) = true ∧
       s.mem.readRom (s.nextPc 0).toNat = some 0b0011100000#10 ∧ decodeFirst 0b0011100000#10 = none) ∧
    (let s := { holdsAnl with afterStop := true }
     s.mode = .run ∧ (sample s).env.supply = .normal ∧ s.afterStop = true ∧
       fetchInstr (sample s) = .ok (.anlData4 9) ∧ Instr.anlData4 9 ≠ .nop) :=
  ⟨⟨rfl, rfl, rfl⟩, ⟨rfl, rfl, rfl, rfl⟩, ⟨rfl, rfl, rfl, rfl, rfl⟩, ⟨rfl, rfl, rfl, by decide, by decide⟩⟩

/-- At address 0 and at the last address three words fit. -/
theorem witness_PlacedInstructionRuns :
    (State.reset.params.layout = .split ∧ State.reset.pc.toNat + 2 < romSteps State.reset.params.part ∧
      (0xFE7 : Addr).toNat + 2 < romSteps .upd69) ∧
      decodeTableWord 16 0b1010010011 = some .incA := by
  decide

/-- R0n on page 0 with n = 0 and n = F, and n = 1 on page 3. -/
theorem witness_LogicWithCell :
    cellRefused 0 ready = false ∧ cellRefused 15 ready = false ∧ cellRefused 1 { ready with p3 := 0x03 } = false := by
  decide

theorem witness_LogicWithTable :
    Sys2Proof.Claims.tableReadable ready ∧ Sys2Proof.Claims.tableReadable { ready with mem := table 0x146 } := by
  unfold Sys2Proof.Claims.tableReadable
  decide

theorem witness_RotateOrResetA : State.reset.a = 0 ∧ ({ ready with a := 1 } : State).a ≠ 0 := by decide

/-- Each mode bit of P4 both ways, the boundary cycle excluded, and both kinds of part. -/
theorem witness_PortReadValues :
    ready.p4.getLsbD 1 = true ∧ (0x24 : Octet).getLsbD 1 = false ∧ (0x22 : Octet).getLsbD 2 = false ∧
      ready.p4.getLsbD 2 = true ∧
      (ready.t.getLsbD 9 && ready.trun && ready.t.extractLsb' 0 9 == 0) = false ∧
      (let s := { ready with t := 0x201, trun := true }
       (s.t.getLsbD 9 && s.trun && s.t.extractLsb' 0 9 == 0) = false) ∧
      (0x27 : Octet).getLsbD 0 = true ∧ ready.p4.getLsbD 0 = false ∧ (part .upd68A).part ≠ .upd69 ∧
      ready.params.part = .upd69 := by
  decide

theorem witness_InPort :
    (Instr.inP14, (1 : BitVec 1), Port.p4) ∈
      [(Instr.inP00, (0 : BitVec 1), Port.p0), (.inP01, 0, .p1), (.inP03, 0, .p3), (.inP04, 0, .p4),
       (.inP10, 1, .p0), (.inP11, 1, .p1), (.inP13, 1, .p3), (.inP14, 1, .p4)] := by
  decide

theorem witness_OutPort : Port.p0 = .p0 ∧ Port.p1 ≠ .p0 ∧ Port.p1 ≠ .p3 ∧ Port.p1 ≠ .p4 ∧ (0 : Nat) < 8 ∧ 7 < 8 := by
  decide

theorem witness_LogicWithPort : (2 : Nibble) = portRead 1 .p4 ready := by decide

theorem witness_MoveToA :
    cellRefused 10 ready = false ∧ cellRefused 15 ready = false ∧ Sys2Proof.Claims.tableReadable ready := by
  unfold Sys2Proof.Claims.tableReadable
  decide

theorem witness_StoreA :
    ((0 : BitVec 1) = 0 ∧ Instr.movR0nA 15 = .movR0nA 15 ∨ (0 : BitVec 1) = 1 ∧ Instr.movR0nA 15 = .movR1nA 15) ∧
      cellRefused 15 ready = false := by
  decide

theorem witness_StoreImmediatePair :
    cellRefused 0 ready = false ∧ cellRefused 14 { ready with p3 := 0x02 } = false := by decide

theorem witness_StoreTablePair :
    (1 : Nibble) ≠ 0 ∧ (15 : Nibble) ≠ 0 ∧ Sys2Proof.Claims.tableReadable { ready with mem := table 0x146 } := by
  unfold Sys2Proof.Claims.tableReadable
  decide

theorem witness_TableWordAtDataPointer :
    (let s := { ready with mem := table 0x146 }
     s.mem.readRom (dataPointer s).toNat = some 0x146 ∧ ramPage s = 0) ∧
    ({ ready.params with paged := .paged } : Params).paged = .paged ∧
      ({ ready.params with paged := .page0 } : Params).paged = .page0 := by
  decide

/-- Page 1 and page 3 of the µPD69; DP = FEAH, the first unmounted address. -/
theorem witness_RefusedUses :
    ready.params.part = .upd69 ∧ ready.params.paged = .refuse ∧ (0x01 : Octet).extractLsb' 0 2 ≠ 0 ∧
      (0x03 : Octet).extractLsb' 0 2 ≠ 0 ∧
      (let s := { ready with p3 := 0xF0, mem := cells [(0x00, 0xA), (0x10, 0xE)] }
       pagedRefused s = false ∧ mounted s.params.part (dataPointer s) = false) := by
  decide

/-- Page 3 on the µPD69 and its absence on the µPD68. -/
theorem witness_Jumps :
    hasPage ready.params.part 3 = true ∧ hasPage (part .upd68).part 1 = true ∧
      hasPage (part .upd68).part 2 = false ∧ hasPage (part .upd67).part 1 = false := by
  decide

theorem witness_CallSavesAddress :
    hasPage (part .upd67A).part 1 = false ∧ hasPage ready.params.part 3 = true ∧ pagedRefused ready = false ∧
      ready.sp = 0 ∧ ({ ready with sp := 1 } : State).sp = 1 := by
  decide

theorem witness_ReturnRestoresAddress :
    pagedRefused ready = false ∧ ready.sp = 0 ∧ ({ ready with sp := 1 } : State).sp = 1 := by
  decide

/-- The state after `CALL 008H` at 010H. -/
def called : State := { writeAsr (ready.nextPc 3) ready with sp := 1, pc := 0x008 }

/-- The subroutine wrote A, CY, P0 and a cell. -/
theorem witness_CallThenReturn :
    (let t := called
     let u := writeCell 0 3 9 { called with a := 7, cy := true, p0Latch := 0x12, pc := 0x030 }
     ready.sp = 0 ∧ exec (Sys2Proof.Claims.callInstr 0 0x008) ready = .next t ∧
       u.params = t.params ∧ u.sp = t.sp ∧ u.asrHigh = t.asrHigh ∧ r0RfPage u = r0RfPage t ∧
       (∀ m, u.mem.readRam (ramAddr (r0RfPage t) m 15) = t.mem.readRam (ramAddr (r0RfPage t) m 15)) ∧
       pagedRefused u = false) :=
  ⟨rfl, rfl, rfl, rfl, rfl, rfl, by decide, rfl⟩

theorem witness_LoadTimerTable : Sys2Proof.Claims.tableReadable { ready with mem := table 0x30C } := by
  unfold Sys2Proof.Claims.tableReadable
  decide

/-- Every row of the table with b3 both ways, and an operand in no row. -/
theorem witness_StatusCondition :
    (0x8 : Nibble).extractLsb' 0 3 ∈ [0b000#3, 0b011#3, 0b110#3] ∧
      (0x6 : Nibble).extractLsb' 0 3 ∈ [0b000#3, 0b011#3, 0b110#3] ∧
      (0xD : Nibble).extractLsb' 0 3 = 0b101#3 ∧
      (0xF : Nibble).extractLsb' 0 3 ∈ [0b001#3, 0b010#3, 0b100#3, 0b111#3] := by
  decide

theorem witness_SttsWritesF : cellRefused 15 ready = false ∧ statusCond 0xD ready = some true := by decide

/-- The five cases of HALT: an operand in no row; the condition holds; F = 1; HALT mode; STOP mode. -/
theorem witness_HaltCases :
    haltListed 0x7 = false ∧ haltPrecondition 0x3 { ready with p0Latch := 0xFE } = false ∧
      relCond 0x5 ready = true ∧ haltPrecondition 0x6 { ready with p0Latch := 0x01 } = true ∧
      (let s := { ready with t := 0x205, f := true }
       relCond 0x5 s = false ∧ s.f = true) ∧
      (let s := { ready with t := 0x205 }
       relCond 0xD s = false ∧ s.f = false ∧ (0xD : Nibble).extractLsb' 0 3 = 0b101#3) ∧
      (relCond 0x3 ready = false ∧ ready.f = false ∧ (0x3 : Nibble).extractLsb' 0 3 ≠ 0b101#3 ∧
        haltPrecondition 0x3 ready = true) := by
  decide

/-- A cell beside R0 and RF, for every cause. -/
theorem witness_ResetTable :
    (0x21 : Nat) ≠ ramAddr 0 0 0 ∧ 0x21 ≠ ramAddr 0 1 0 ∧ 0x21 ≠ ramAddr (r0RfPage ready) 0 15 ∧
      0x21 ≠ ramAddr (r0RfPage ready) 1 15 ∧ ResetCause.haltIllegal ≠ .spOverflow := by
  decide

theorem witness_SupplyResets :
    (sample { ready with env := { ready.env with supply := .belowPoc } }).env.supply = .belowPoc ∧
      (sample { ready with env := { ready.env with supply := .belowVid } }).env.supply = .belowVid ∧
      (sample { ready with inputs := [{ ready.env with supply := .dip }] }).env.supply = .dip := by
  decide

theorem witness_LeavingReset :
    (let s := { State.reset with inputs := [{ State.reset.env with oscStable := false }, State.reset.env] }
     s.mode = .resetWait true ∧ (sample s).env.supply = .normal ∧ (sample s).env.pins.ki ≠ 0xF ∧
       (sample s).env.oscStable = false ∧ (sample s).inputs ≠ []) ∧
    (State.reset.mode = .resetWait true ∧ (sample State.reset).env.supply = .normal ∧
      (sample State.reset).env.oscStable = true ∧ (sample State.reset).env.pins.ki ≠ 0xF) ∧
    (let s := { State.reset with env := pins 0xF 0 false false false }
     s.mode = .resetWait true ∧ (sample s).env.supply = .normal ∧ (sample s).env.pins.ki = 0xF) ∧
    (let s := { State.reset with mode := .resetWait false, env := pins 0xF 0 false false false }
     s.mode = .resetWait false ∧ (sample s).env.supply = .normal ∧ (sample s).env.oscStable = true) := by
  decide

/-- Each cause, and an instruction that is none. -/
theorem witness_OnlyFourInstructionsReset :
    ready.mode = .run ∧ exec (.haltData4 1) ready = .next (internalReset .haltIllegal ready) ∧
      exec .rlzA ready = .next (internalReset .rlzZero ready) ∧
      exec (.callPage0 8) { ready with sp := 1 } = .next (internalReset .spOverflow { ready with sp := 1 }) ∧
      exec .ret ready = .next (internalReset .spUnderflow ready) ∧
      exec .nop ready = .next { ready with pc := 0x011 } :=
  ⟨rfl, rfl, rfl, rfl, rfl, rfl⟩

theorem witness_TickCounts :
    clockRuns ready.mode = true ∧ (0x201 : Word10).extractLsb' 0 9 ≠ 0 ∧ (0x200 : Word10).extractLsb' 0 9 = 0 ∧
      clockRuns (.stop 3) = false ∧ clockRuns (.halt 5) = true := by
  decide

/-- The clauses on the carrier generator of `TickCounts` and `OutputPins`, at both ends of the 128 clocks. -/
theorem witness_TickCounts_carrier :
    (let s := { ready with t := 0x200, trun := true, m1 := 0x045 }
     (s.t.getLsbD 9 && s.trun) = true ∧ (s.m1.getLsbD 9 && s.t.extractLsb' 0 9 == 0) = false) ∧
    (let s := { ready with t := 0x200, trun := true, m1 := 0x245 }
     (s.t.getLsbD 9 && s.trun) = true ∧ s.t.extractLsb' 0 9 = 0 ∧
       (s.m1.getLsbD 9 && s.t.extractLsb' 0 9 == 0) = true) ∧
    ((ready.t.getLsbD 9 && ready.trun) = false ∧ ready.carrier.high = false) ∧
    (let s := { ready with carrier := { Carrier.idle with high := true, count := 127 } }
     clockRuns s.mode = true ∧ s.carrier.unspecified = false ∧ (s.t.getLsbD 9 && s.trun) = false ∧
       s.carrier.high = true ∧ s.carrier.count.toNat < 128) ∧
    (let s := { ready with carrier := { Carrier.idle with high := true, count := 128 } }
     (s.t.getLsbD 9 && s.trun) = false ∧ s.carrier.high = true ∧ 128 ≤ s.carrier.count.toNat) := by
  decide

theorem witness_TimerOperatesSetValuePlusOne : clockRuns ready.mode = true := rfl

theorem witness_CarrierCycleIsClocks :
    (let c : Carrier := { Carrier.idle with count := 0x89 }
     c.count ≤ (if c.high then (0x45 : BitVec 9) else 0x89)) ∧
    (let c : Carrier := { Carrier.idle with count := 0x45, high := true }
     c.count ≤ (if c.high then (0x45 : BitVec 9) else 0x89)) := by
  decide

/-- Each clause: steady high, carrier, output inactive, LED mode, S1 mode, K_I/O output and input mode. -/
theorem witness_OutputPins :
    (let s := { ready with t := 0x200, trun := true, m1 := 0x245 }
     s.carrier.unspecified = false ∧ (s.t.getLsbD 9 && s.trun) = true ∧ s.m1.getLsbD 9 = true) ∧
    (let s := { ready with t := 0x200, trun := true, m1 := 0x045 }
     (s.t.getLsbD 9 && s.trun) = true ∧ s.m1.getLsbD 9 = false) ∧
    ((ready.t.getLsbD 9 && ready.trun) = false ∧ ready.carrier.high = false ∧ ready.p4.getLsbD 2 = true) ∧
    (0x22 : Octet).getLsbD 2 = false ∧ ready.p4.getLsbD 1 = true ∧ (0x24 : Octet).getLsbD 1 = false := by
  decide

/-- A counter of 0 and the largest one. -/
theorem witness_HaltModeLastsCounterCycles :
    (let s := { ready with mode := .halt 0xD, t := 0x3FF, trun := true, inputs := [ready.env] }
     s.mode = .halt 0xD ∧ haltIsTimer 0xD = true ∧ s.env.supply = .normal ∧
       (∀ e ∈ s.inputs, e.supply = .normal) ∧ 511 ≤ (timerCount s).toNat) ∧
    0 ≤ (timerCount ready).toNat := by
  decide

theorem witness_StopModeSteps :
    (let s := { ready with mode := .stop 3, env := pins 1 0 false false false }
     s.mode = .stop 3 ∧ (sample s).env.supply = .normal ∧ relCond 3 (sample s) = true ∧
       (sample s).env.oscStable = true) ∧
    (let s := { ready with mode := .stop 3 }
     s.mode = .stop 3 ∧ (sample s).env.supply = .normal ∧ relCond 3 (sample s) = false) ∧
    (let s := { ready with mode := .stop 3, env := { pins 1 0 false false false with oscStable := false } }
     relCond 3 (sample s) = true ∧ (sample s).inputs = [] ∧
       ∀ e ∈ samplesToCome s, e.supply = .normal ∧ relCond 3 { s with env := e } = true) ∧
    (let e := { pins 1 0 false false false with oscStable := false }
     let s := { ready with mode := .stop 3, inputs := [e, e] }
     (sample s).env.oscStable = false ∧ (sample s).inputs ≠ [] ∧
       ∀ e ∈ samplesToCome s, e.supply = .normal ∧ relCond 3 { s with env := e } = true) := by
  decide

theorem witness_OnlyHaltEntersStandby :
    ready.mode = .run ∧
      (∃ t, exec (.haltData4 3) ready = .next t ∧ t.mode = .stop 3) ∧
      ∃ t, exec (.haltData4 5) { ready with t := 0x001 } = .next t ∧ t.mode = .halt 5 :=
  ⟨rfl, ⟨_, rfl, rfl⟩, ⟨_, rfl, rfl⟩⟩

/-- The machine that waits after a reset with a cell and a program word listed meets the invariant and steps. -/
theorem witness_StepKeepsInvariant :
    (let s := { State.reset with p3 := 0x08, mem := { rom := [(0, 0)], ram := [(0x05, 9)] } }
     Inv s ∧ ∃ t, step s = .next t) :=
  ⟨⟨by decide, by decide, by decide, ⟨rfl, rfl, rfl, rfl, rfl, rfl⟩, fun h => by cases h⟩, _, rfl⟩

theorem witness_ProgramMemoryNeverChanges : ∃ t, step (holding [0xE0E0] ready) = .next t := ⟨_, rfl⟩

/-- The instruction is not a reset cause in any state. -/
theorem not_raisesReset_nop (s : State) : ¬ Sys2Proof.Claims.raisesReset .nop s := by
  rintro (⟨d, h, -⟩ | ⟨h, -⟩ | ⟨page, addr, h, -⟩ | ⟨h, -⟩)
  · cases h
  · cases h
  · revert h
    unfold Sys2Proof.Claims.callInstr
    split
    · nofun
    · split
      · nofun
      · split <;> nofun
  · cases h

theorem witness_OnlySttsAndHaltWriteF :
    ready.mode = .run ∧ (∃ t, exec .nop ready = .next t) ∧ (∀ d, Instr.nop ≠ .haltData4 d) ∧
      (∀ d, Instr.nop ≠ .sttsData4 d) ∧ (∀ n, Instr.nop ≠ .sttsR0n n) ∧
      ¬ Sys2Proof.Claims.raisesReset .nop ready :=
  ⟨rfl, ⟨_, rfl⟩, nofun, nofun, nofun, not_raisesReset_nop _⟩

theorem witness_CyKeptOutsideItsList :
    (∃ t, exec .nop ready = .next t) ∧ Sys2Proof.Claims.keepsCy .nop = true ∧
      ¬ Sys2Proof.Claims.raisesReset .nop ready :=
  ⟨⟨_, rfl⟩, rfl, not_raisesReset_nop _⟩

theorem witness_PcAdvancesByLength :
    (∃ t, exec .nop ready = .next t) ∧
      (∀ lay, ∃ w ws, encode lay .nop = w :: ws ∧ w.extractLsb' 6 4 ∉ [4#4, 5#4, 6#4, 7#4, 8#4] ∧
        w ≠ 0b0011010010#10) ∧
      ¬ Sys2Proof.Claims.raisesReset .nop ready :=
  ⟨⟨_, rfl⟩, fun _ => ⟨_, _, rfl, by decide, by decide⟩, not_raisesReset_nop _⟩

/-- NOP is none of the writers that the three clauses except. -/
theorem witness_StorageWriters :
    (∃ t, exec .nop ready = .next t) ∧ ¬ Sys2Proof.Claims.raisesReset .nop ready ∧ Instr.nop ≠ .ret ∧
      (∀ n, Instr.nop ≠ .movR0nA n ∧ Instr.nop ≠ .movR1nA n ∧ Instr.nop ≠ .movRnTab n) ∧
      (∀ n d, Instr.nop ≠ .movRnData8 n d) ∧
      (∀ lower p, Instr.nop ≠ outInstr lower p) ∧ ∀ p d, Instr.nop ≠ outData8Instr p d :=
  ⟨⟨_, rfl⟩, not_raisesReset_nop _, nofun, fun _ => ⟨nofun, nofun, nofun⟩, nofun,
    fun lower p => by cases lower <;> cases p <;> nofun, fun p d => by cases p <;> nofun⟩

end Sys2Proof.Tests
end

/-! SUPPORT. What an instruction that completes has done, said once for all 119 instructions. -/

namespace Sys2Proof.Machine

/-- The update writes A and CY and nothing else (R35). -/
def WritesA (f : State → State) : Prop := ∀ u, ∃ x c, f u = { u with a := x, cy := c }

theorem writesA_andA (x : Nibble) : WritesA (andA x) := fun _ => ⟨_, _, rfl⟩
theorem writesA_orA (x : Nibble) : WritesA (orA x) := fun _ => ⟨_, _, rfl⟩
theorem writesA_xorA (x : Nibble) : WritesA (xorA x) := fun _ => ⟨_, _, rfl⟩
theorem writesA_loadA (x : Nibble) : WritesA (loadA x) := fun _ => ⟨_, _, rfl⟩
theorem writesA_incrementA : WritesA incrementA := fun _ => ⟨_, _, rfl⟩
theorem writesA_rotateA : WritesA rotateA := fun _ => ⟨_, _, rfl⟩
theorem writesA_scafA : WritesA scafA := fun _ => ⟨_, _, rfl⟩

/-- The opcode field of an instruction's first word (R113). -/
def firstOpcode (i : Instr) : BitVec 4 := ((encode .split i).headD 0).extractLsb' 6 4

/-- The opcodes of the jumps and RET (R119). -/
def jumpOpcode (op : BitVec 4) : Bool := [4#4, 5#4, 6#4, 7#4, 8#4].contains op

/-- What an instruction can do when it completes: the instruction, the state before and the state after. The
values of A, CY and F are left out where no statement over all instructions needs them. -/
inductive Effect : Instr → State → State → Prop
  /-- ANL, ORL, XRL, INC, RL, RLZ, MOV to A, IN and SCAF without a cell operand (R141 to R152, R171, R173 to R175). -/
  | toA {i s} (x : Nibble) (c : Bool) (hi : Sys2Proof.Claims.keepsCy i = false) :
      Effect i s (retire (instrWords i) { s with a := x, cy := c })
  /-- ANL, ORL, XRL and MOV to A with R0n or R1n, which may name RF (R26, R141, R191). -/
  | cellToA {i s} (n x : Nibble) (c : Bool) (hi : Sys2Proof.Claims.keepsCy i = false) :
      Effect i s (retire (instrWords i) { touchRf n s with a := x, cy := c })
  /-- The moves to data memory (R195 to R197). -/
  | storeR0 {s} (n : Nibble) :
      Effect (.movR0nA n) s (retire 1 (writeCell 0 n (touchRf n s).a (touchRf n s)))
  | storeR1 {s} (n : Nibble) :
      Effect (.movR1nA n) s (retire 1 (writeCell 1 n (touchRf n s).a (touchRf n s)))
  | storePair {s} (n : Nibble) (d : Octet) :
      Effect (.movRnData8 n d) s (retire 2 (writePair n d (touchRf n s)))
  | storeTable {s} (n : Nibble) :
      Effect (.movRnTab n) s (retire 1 (writePair n (data8Of (tableWord s)) (touchRf n s)))
  /-- OUT (R172, R176). -/
  | out {s} (lower : Bool) (p : Port) :
      Effect (outInstr lower p) s (retire 1 (portWrite (if lower then 0 else 1) p s.a s))
  | outPair {s} (p : Port) (d : Octet) : Effect (outData8Instr p d) s (retire 2 (portWritePair p d s))
  /-- A write of T, M0 or M1 (R244 to R253); a nibble write of M0 or M1 forgets CY (R252). -/
  | timer {i s} (v : Word10) : Effect i s (retire (instrWords i) (timerWrite v s))
  | loadM0 {i s} (v : Word10) : Effect i s (retire (instrWords i) (writeM0 v s))
  | loadM1 {i s} (v : Word10) : Effect i s (retire (instrWords i) (writeM1 v s))
  | nibbleToM0 {i s} (v : Word10) (hi : Sys2Proof.Claims.keepsCy i = false) :
      Effect i s (retire (instrWords i) (forgetCy (writeM0 v s)))
  | nibbleToM1 {i s} (v : Word10) (hi : Sys2Proof.Claims.keepsCy i = false) :
      Effect i s (retire (instrWords i) (forgetCy (writeM1 v s)))
  /-- STTS (R273, R274). -/
  | sttsData {s} (d : Nibble) : Effect (.sttsData4 d) s (retire 2 (stts d s))
  | sttsCell {s} (n : Nibble) : Effect (.sttsR0n n) s (retire 1 (stts (readCell 0 n s) (touchRf n s)))
  /-- HALT that goes on with F written, and HALT that waits (R276 to R278). -/
  | haltPasses {s} (d : Nibble) (b : Bool) : Effect (.haltData4 d) s { retire 2 s with f := b }
  | haltWaits {s} (d : Nibble) (hd : haltListed d = true) (hf : s.f = false) :
      Effect (.haltData4 d) s (enterStandby d (retire 2 s))
  /-- A jump, taken or not (R211), CALL and RET (R231, R232). -/
  | jump {i s} (taken : Bool) (page : BitVec 2) (addr : Word10) (hi : jumpOpcode (firstOpcode i) = true) :
      Effect i s { s with pc := if taken then jumpTarget s.params.part page addr else s.nextPc 2 }
  | call {s} (page : BitVec 2) (addr : Word10) :
      Effect (Sys2Proof.Claims.callInstr page addr) s
        { writeAsr (s.nextPc 3) s with sp := 1, pc := jumpTarget s.params.part page addr }
  | ret {s} : Effect .ret s { s with pc := truncAddr s.params.part (asrValue s), sp := 0 }
  /-- NOP (R271). -/
  | nop {s} : Effect .nop s (retire 1 s)
  /-- The system reset, where the instruction raises it (R302). -/
  | reset {i s} (cause : ResetCause) (hr : Sys2Proof.Claims.raisesReset i s) :
      Effect i s (internalReset cause s)

/-! ## One rule per operand form -/

section
variable {i : Instr} {s t : State} {f : State → State} {n : Nibble} {k : Nat}

theorem effect_of_writesA (hi : Sys2Proof.Claims.keepsCy i = false) (hf : WritesA f)
    (h : Host.Outcome.next (retire (instrWords i) (f s)) = (.next t : Out)) : Effect i s t := by
  obtain ⟨x, c, hx⟩ := hf s
  cases h
  rw [hx]
  exact .toA x c hi

theorem effect_of_withCell (h : withCell n s (fun u => .next (f u)) = .next t)
    (he : Effect i s (f (touchRf n s))) : Effect i s t := by
  obtain ⟨-, h⟩ := withCell_next_iff.1 h
  cases h
  exact he

theorem effect_of_withTable {g : Word10 → State} (h : withTable s (fun d => .next (g d)) = .next t)
    (he : Effect i s (g (tableWord s))) : Effect i s t := by
  obtain ⟨-, -, h⟩ := withTable_next_iff.1 h
  cases h
  exact he

theorem effect_of_cellToA (hi : Sys2Proof.Claims.keepsCy i = false) (hf : WritesA f)
    (h : withCell n s (fun u => .next (retire (instrWords i) (f u))) = .next t) : Effect i s t := by
  obtain ⟨x, c, hx⟩ := hf (touchRf n s)
  refine effect_of_withCell h ?_
  rw [hx]
  exact .cellToA n x c hi

theorem effect_of_tableToA {g : Word10 → Nibble} {f : Nibble → State → State}
    (hi : Sys2Proof.Claims.keepsCy i = false) (hf : ∀ x, WritesA (f x))
    (h : withTable s (fun d => .next (retire (instrWords i) (f (g d) s))) = .next t) : Effect i s t :=
  effect_of_withTable h (effect_of_writesA hi (hf _) rfl)

theorem effect_of_jumpIf {taken : Bool} {page : BitVec 2} {addr : Word10}
    (hi : jumpOpcode (firstOpcode i) = true) (h : jumpIf taken page addr s = .next t) : Effect i s t := by
  obtain ⟨-, rfl⟩ := jumpIf_next_iff.1 h
  exact .jump taken page addr hi

/-- `MOV Rn,@R0` writes the pair, the table word read before the write (R197). -/
theorem effect_of_execMovRnTab (h : execMovRnTab n s = .next t) : Effect (.movRnTab n) s t := by
  unfold execMovRnTab at h
  split at h
  · cases h
  · obtain ⟨-, -, h⟩ := withTable_next_iff.1 h
    exact effect_of_withCell h (.storeTable n)

/-- CALL writes ASR, SP and PC, or raises the reset (R231). -/
theorem effect_of_callTo {page : BitVec 2} {addr : Word10} (h : callTo page addr s = .next t) :
    Effect (Sys2Proof.Claims.callInstr page addr) s t := by
  obtain ⟨-, -, ⟨hsp, rfl⟩ | ⟨-, rfl⟩⟩ := callTo_next_iff.1 h
  · exact .reset _ (.inr (.inr (.inl ⟨page, addr, rfl, hsp⟩)))
  · exact .call page addr

/-- RET writes PC and SP, or raises the reset (R232). -/
theorem effect_of_execRet (h : execRet s = .next t) : Effect .ret s t := by
  unfold execRet at h
  split at h
  · cases h
  · split at h
    · cases h
      exact .reset _ (.inr (.inr (.inr ⟨rfl, ‹_›⟩)))
    · cases h
      exact .ret

/-- RLZ writes A and CY, or raises the reset (R152). -/
theorem effect_of_execRlzA (h : execRlzA s = .next t) : Effect .rlzA s t := by
  unfold execRlzA at h
  split at h
  · cases h
    exact .reset _ (.inr (.inl ⟨rfl, ‹_›⟩))
  · exact effect_of_writesA rfl writesA_rotateA h

/-- HALT raises the reset, passes with F written, or enters a standby mode with F 0 (R276 to R278). -/
theorem effect_of_execHaltData4 {d : Nibble} (h : execHaltData4 d s = .next t) : Effect (.haltData4 d) s t := by
  unfold execHaltData4 at h
  split at h
  next hbad =>
    cases h
    exact .reset _ (.inl ⟨d, rfl, by simpa using hbad⟩)
  next hok =>
    have hd : haltListed d = true := by simp at hok; exact hok.1
    split at h
    · cases h
      exact .haltPasses d true
    · split at h
      · cases h
        exact .haltPasses d false
      · cases h
        exact .haltWaits d hd (eq_false_of_ne_true ‹_›)

end

/-- Everything an instruction that completes can have done. -/
theorem exec_effect {i : Instr} {s t : State} (h : exec i s = .next t) : Effect i s t := by
  cases i with
  | anlR0n n | anlR1n n => exact effect_of_cellToA rfl (writesA_andA _) h
  | orlR0n n | orlR1n n => exact effect_of_cellToA rfl (writesA_orA _) h
  | xrlR0n n | xrlR1n n => exact effect_of_cellToA rfl (writesA_xorA _) h
  | movAR0n n | movAR1n n => exact effect_of_cellToA rfl (writesA_loadA _) h
  | anlTabH | anlTabL => exact effect_of_tableToA rfl writesA_andA h
  | orlTabH | orlTabL => exact effect_of_tableToA rfl writesA_orA h
  | xrlTabH | xrlTabL => exact effect_of_tableToA rfl writesA_xorA h
  | movATabH | movATabL => exact effect_of_tableToA rfl writesA_loadA h
  | anlData4 d => exact effect_of_writesA rfl (writesA_andA _) h
  | orlData4 d => exact effect_of_writesA rfl (writesA_orA _) h
  | xrlData4 d => exact effect_of_writesA rfl (writesA_xorA _) h
  | movAData4 d => exact effect_of_writesA rfl (writesA_loadA _) h
  | anlP00 | anlP01 | anlP03 | anlP04 | anlP10 | anlP11 | anlP13 | anlP14 =>
    exact effect_of_writesA rfl (writesA_andA _) h
  | orlP00 | orlP01 | orlP03 | orlP04 | orlP10 | orlP11 | orlP13 | orlP14 =>
    exact effect_of_writesA rfl (writesA_orA _) h
  | xrlP00 | xrlP01 | xrlP03 | xrlP04 | xrlP10 | xrlP11 | xrlP13 | xrlP14 =>
    exact effect_of_writesA rfl (writesA_xorA _) h
  | inP00 | inP01 | inP03 | inP04 | inP10 | inP11 | inP13 | inP14
  | movAT0 | movAT1 | movAM00 | movAM01 | movAM10 | movAM11 =>
    exact effect_of_writesA rfl (writesA_loadA _) h
  | incA => exact effect_of_writesA rfl writesA_incrementA h
  | rlA => exact effect_of_writesA rfl writesA_rotateA h
  | rlzA => exact effect_of_execRlzA h
  | scaf => exact effect_of_writesA rfl writesA_scafA h
  | movR0nA n => exact effect_of_withCell (show execMovR0nA n s = _ from h) (.storeR0 n)
  | movR1nA n => exact effect_of_withCell (show execMovR1nA n s = _ from h) (.storeR1 n)
  | movRnData8 n d => exact effect_of_withCell (show execMovRnData8 n d s = _ from h) (.storePair n d)
  | movRnTab n => exact effect_of_execMovRnTab h
  | outP00 => cases h; exact .out true .p0
  | outP01 => cases h; exact .out true .p1
  | outP03 => cases h; exact .out true .p3
  | outP04 => cases h; exact .out true .p4
  | outP10 => cases h; exact .out false .p0
  | outP11 => cases h; exact .out false .p1
  | outP13 => cases h; exact .out false .p3
  | outP14 => cases h; exact .out false .p4
  | outP0Data8 d => cases h; exact .outPair .p0 d
  | outP1Data8 d => cases h; exact .outPair .p1 d
  | outP3Data8 d => cases h; exact .outPair .p3 d
  | outP4Data8 d => cases h; exact .outPair .p4 d
  | jmpPage0 addr | jmpPage1 addr | jmpPage2 addr | jmpPage3 addr
  | jcPage0 addr | jcPage1 addr | jcPage2 addr | jcPage3 addr
  | jncPage0 addr | jncPage1 addr | jncPage2 addr | jncPage3 addr
  | jfPage0 addr | jfPage1 addr | jfPage2 addr | jfPage3 addr
  | jnfPage0 addr | jnfPage1 addr | jnfPage2 addr | jnfPage3 addr =>
    exact effect_of_jumpIf (by simp [jumpOpcode, firstOpcode, encode]) h
  | callPage0 addr => exact effect_of_callTo (page := 0) h
  | callPage1 addr => exact effect_of_callTo (page := 1) h
  | callPage2 addr => exact effect_of_callTo (page := 2) h
  | callPage3 addr => exact effect_of_callTo (page := 3) h
  | ret => exact effect_of_execRet h
  | movT0A | movT1A | movTData10 d => cases h; exact .timer _
  | movM0Data10 d => cases h; exact .loadM0 d
  | movM1Data10 d => cases h; exact .loadM1 d
  | movM00A | movM01A => cases h; exact .nibbleToM0 _ rfl
  | movM10A | movM11A => cases h; exact .nibbleToM1 _ rfl
  | movTTab => exact effect_of_withTable (show execMovTTab s = _ from h) (.timer _)
  | movM0Tab => exact effect_of_withTable (show execMovM0Tab s = _ from h) (.loadM0 _)
  | movM1Tab => exact effect_of_withTable (show execMovM1Tab s = _ from h) (.loadM1 _)
  | haltData4 d => exact effect_of_execHaltData4 h
  | sttsData4 d => cases h; exact .sttsData d
  | sttsR0n n => exact effect_of_withCell (show execSttsR0n n s = _ from h) (.sttsCell n)
  | nop => cases h; exact .nop

end Sys2Proof.Machine

/-! ## The writers of F, CY, PC and the storage (R34, R35, R21, R23, R85, R95) -/

namespace Sys2Proof.Machine

/-- Ending an instruction after an update that kept PC and the part puts PC at the next word (R10). -/
theorem retire_pc_eq {s u : State} {k : Nat} (hparams : u.params = s.params) (hpc : u.pc = s.pc) :
    (retire k u).pc = s.nextPc k := by
  simp [State.nextPc, hparams, hpc]

@[simp] theorem instrWords_outInstr (lower : Bool) (p : Port) : instrWords (outInstr lower p) = 1 := by
  cases lower <;> cases p <;> rfl

@[simp] theorem instrWords_outData8Instr (p : Port) (d : Octet) : instrWords (outData8Instr p d) = 2 := by
  cases p <;> rfl

/-- Every CALL begins with the CALL word, under either address layout (R120). -/
theorem encode_callInstr (lay : AddrLayout) (page : BitVec 2) (addr : Word10) :
    ∃ ws, encode lay (Sys2Proof.Claims.callInstr page addr) = 0b0011010010#10 :: ws := by
  unfold Sys2Proof.Claims.callInstr
  split_ifs <;> exact ⟨_, rfl⟩

/-- The opcode of an instruction whose first word is known. -/
theorem firstOpcode_eq {i : Instr} {w : Word10} {ws : List Word10} (h : encode .split i = w :: ws) :
    firstOpcode i = w.extractLsb' 6 4 := by
  simp [firstOpcode, h]

/-- Settles O57: no effect but that of STTS, HALT and a reset writes F. -/
theorem onlySttsAndHaltWriteF : Obligations.OnlySttsAndHaltWriteF := by
  intro i s t _ h hhalt hstts hsttsCell hreset
  cases exec_effect h with
  | haltPasses d => exact absurd rfl (hhalt d)
  | haltWaits d => exact absurd rfl (hhalt d)
  | sttsData d => exact absurd rfl (hstts d)
  | sttsCell n => exact absurd rfl (hsttsCell n)
  | reset cause hr => exact absurd hr hreset
  | _ => simp

/-- Settles O58: the effects that write CY are those of instructions the list of R35 names. -/
theorem cyKeptOutsideItsList : Obligations.CyKeptOutsideItsList := by
  intro i s t h hkeeps hreset
  cases exec_effect h with
  | toA x c hi | cellToA n x c hi | nibbleToM0 v hi | nibbleToM1 v hi => simp [hi] at hkeeps
  | reset cause hr => exact absurd hr hreset
  | _ => simp

/-- Settles O59: every effect but a jump, CALL, RET and a reset ends with `next` of the instruction's words. -/
theorem pcAdvancesByLength : Obligations.PcAdvancesByLength := by
  intro i s t h hfirst hreset
  obtain ⟨w, ws, hw, hop, hcall⟩ := hfirst .split
  have hnot : jumpOpcode (firstOpcode i) = false := by
    rw [firstOpcode_eq hw]
    simpa [jumpOpcode] using hop
  cases exec_effect h with
  | jump taken page addr hi => simp [hi] at hnot
  | call page addr =>
    obtain ⟨vs, hvs⟩ := encode_callInstr .split page addr
    rw [hvs] at hw
    cases hw
    exact absurd rfl hcall
  | ret => simp [jumpOpcode, firstOpcode, encode] at hnot
  | reset cause hr => exact absurd hr hreset
  | haltWaits d => exact enterStandby_pc d (retire 2 s)
  | haltPasses d b => rfl
  | out lower p => rw [instrWords_outInstr]; exact retire_pc_eq (by simp) (by simp)
  | outPair p d => rw [instrWords_outData8Instr]; exact retire_pc_eq (by simp) (by simp)
  | _ => exact retire_pc_eq (by simp) (by simp)

/-- Settles O60: the effects that write SP, data memory or a port register are those of the instructions named. -/
theorem storageWriters : Obligations.StorageWriters := by
  intro i s t h hreset
  refine ⟨fun hret hcall => ?sp, fun hstore hpair hcall => ?mem, fun hout houtPair => ?ports⟩
  case sp =>
    cases exec_effect h with
    | ret => exact absurd rfl hret
    | call page addr => exact absurd rfl (hcall page addr)
    | reset cause hr => exact absurd hr hreset
    | _ => simp
  case mem =>
    cases exec_effect h with
    | storeR0 n => obtain ⟨hne, -, -⟩ := hstore n; exact absurd rfl hne
    | storeR1 n => obtain ⟨-, hne, -⟩ := hstore n; exact absurd rfl hne
    | storeTable n => obtain ⟨-, -, hne⟩ := hstore n; exact absurd rfl hne
    | storePair n d => exact absurd rfl (hpair n d)
    | call page addr => exact absurd rfl (hcall page addr)
    | reset cause hr => exact absurd hr hreset
    | _ => simp
  case ports =>
    cases exec_effect h with
    | out lower p => exact absurd rfl (hout lower p)
    | outPair p d => exact absurd rfl (houtPair p d)
    | reset cause hr => exact absurd hr hreset
    | _ => simp

end Sys2Proof.Machine

/-! ## The invariant (R20, R24, R42, R59, R63, R275, R324, R340 to R342) -/

namespace Sys2Proof.Machine

/-! ### Cutting to a width (R20, R25) -/

@[simp] theorem truncAddr_truncAddr (p : Part) (a : Addr) : truncAddr p (truncAddr p a) = truncAddr p a := by
  unfold truncAddr
  split
  · rfl
  · rw [BitVec.and_assoc, BitVec.and_self]

@[simp] theorem truncAsrHigh_truncAsrHigh (p : Part) (v : Nibble) :
    truncAsrHigh p (truncAsrHigh p v) = truncAsrHigh p v := by
  unfold truncAsrHigh
  split
  · rfl
  · rw [BitVec.and_assoc, BitVec.and_self]

@[simp] theorem truncAddr_zero (p : Part) : truncAddr p 0 = 0 := by cases p <;> rfl

@[simp] theorem truncAddr_jumpTarget (p : Part) (page : BitVec 2) (addr : Word10) :
    truncAddr p (jumpTarget p page addr) = jumpTarget p page addr := truncAddr_truncAddr _ _

@[simp] theorem truncAddr_nextPc (s : State) (k : Nat) : truncAddr s.params.part (s.nextPc k) = s.nextPc k :=
  truncAddr_truncAddr _ _

/-- Bits cut by a mask stay cut. -/
theorem and_mask_idem {w : Nat} (x m : BitVec w) : x &&& m &&& m = x &&& m := by
  rw [BitVec.and_assoc, BitVec.and_self]

/-! ### The carrier generator -/

theorem carrierInPhase_of_inactive {s : State} (h : outputActive s = false) : carrierInPhase s := by
  intro hact
  simp [h] at hact

/-- With the timer stopped the output is not active (R326). -/
theorem outputActive_of_stopped {s : State} (h : s.trun = false) : outputActive s = false := by
  rw [outputActive, h, Bool.and_false]

theorem carrierInPhase_of_stopped {s : State} (h : s.trun = false) : carrierInPhase s :=
  carrierInPhase_of_inactive (outputActive_of_stopped h)

theorem carrierInPhase_of_unspecified {s : State} (h : s.carrier.unspecified = true) : carrierInPhase s := by
  intro _ hspec
  simp [h] at hspec

/-- The generator put at a position of its period is within the phase it is put in (R324). -/
theorem carrierAt_count_le (m0 m1 : BitVec 9) (pos : Nat) (c : Carrier) :
    (carrierAt m0 m1 pos c).count ≤ (if (carrierAt m0 m1 pos c).high then m1 else m0) := by
  have ofNat_sub_le (m : BitVec 9) (k : Nat) : BitVec.ofNat 9 (m.toNat - k) ≤ m := by
    have := m.isLt
    simp [BitVec.le_def]
    omega
  unfold carrierAt
  split
  · exact ofNat_sub_le m0 _
  · exact ofNat_sub_le m1 _

/-- T with a new counter value keeps t9 (R321). -/
theorem getLsbD_withCount (v : Word10) (count : BitVec 9) :
    BitVec.getLsbD (v.extractLsb' 9 1 ++ count : Word10) 9 = v.getLsbD 9 :=
  (BitVec.getLsbD_append (x := v.extractLsb' 9 1) (y := count)).trans (by simp)

@[simp] theorem timerEnable_tick (s : State) : timerEnable (tick s) = timerEnable s := by
  unfold tick
  split
  · split
    · exact getLsbD_withCount s.t _
    · rfl
  · rfl

/-- Counting does not start the timer operation (R321). -/
theorem trun_of_tick {s : State} (h : (tick s).trun = true) : s.trun = true := by
  unfold tick at h
  split at h
  · split at h
    · exact h
    · cases h
  · exact h

/-- Counting does not start the timer output (R321, R326). -/
theorem outputActive_of_tick {s : State} (h : outputActive (tick s) = true) : outputActive s = true := by
  simp only [outputActive, timerEnable_tick, Bool.and_eq_true] at h ⊢
  exact ⟨h.1, trun_of_tick h.2⟩

theorem tick_carrier {s : State} (h : clockRuns s.mode = true) : (tick s).carrier = carrierCycle s := by
  rw [tick_running h]
  split <;> rfl

/-- A machine cycle that ends with the output active leaves the counter within its phase, wherever it stood
before (R324). -/
theorem tick_carrierInPhase {s : State} (h : clockRuns s.mode = true) : carrierInPhase (tick s) := by
  intro hact _
  have hm0 : m0Modulo (tick s) = m0Modulo s := by simp [m0Modulo]
  have hm1 : m1Modulo (tick s) = m1Modulo s := by simp [m1Modulo]
  rw [hm0, hm1, tick_carrier h]
  rcases carrierCycle_cases s with ⟨-, -, hc⟩ | ⟨-, -, hc⟩ | ⟨hoff, -⟩
  · rw [hc]
    exact carrierAt_count_le _ _ _ _
  · rw [hc, rest_count]
    exact BitVec.le_def.2 (Nat.zero_le _)
  · simp [outputActive_of_tick hact] at hoff

/-! ### Each state operation keeps the invariant -/

/-- RUN is legal whatever the registers hold. -/
theorem modeLegal_of_run {s : State} (hm : s.mode = .run) : modeLegal s := by simp [modeLegal, hm]

section
variable {s t : State} {i : Instr}

theorem retire_inv (k : Nat) (h : Inv s) (hm : s.mode = .run) : Inv (retire k s) where
  memory := h.memory
  addresses := ⟨truncAddr_nextPc s k, h.addresses.2⟩
  fixedBits := h.fixedBits
  mode := modeLegal_of_run hm
  carrier := h.carrier

/-- The invariant says nothing of A, CY, F and SP in RUN. -/
theorem writeRegs_inv {x : Nibble} {c b : Bool} {v : BitVec 1} (h : Inv s) (hm : s.mode = .run) :
    Inv { s with a := x, cy := c, f := b, sp := v } where
  memory := h.memory
  addresses := h.addresses
  fixedBits := h.fixedBits
  mode := modeLegal_of_run hm
  carrier := h.carrier

theorem jump_inv {target : Addr} (ht : truncAddr s.params.part target = target) (h : Inv s)
    (hm : s.mode = .run) : Inv { s with pc := target } where
  memory := h.memory
  addresses := ⟨ht, h.addresses.2⟩
  fixedBits := h.fixedBits
  mode := modeLegal_of_run hm
  carrier := h.carrier

theorem touchRf_inv (n : Nibble) (h : Inv s) : Inv (touchRf n s) := by
  by_cases hn : n = 15
  · subst hn
    rw [touchRf_rf]
    exact ⟨h.memory, ⟨h.addresses.1, truncAsrHigh_truncAsrHigh _ _⟩, h.fixedBits, h.mode, h.carrier⟩
  · rwa [touchRf_of_ne s hn]

theorem writeCell_inv (m : BitVec 1) (n v : Nibble) (h : Inv s) : Inv (writeCell m n v s) :=
  ⟨writeCell_wf h.memory, h.addresses, h.fixedBits, h.mode, h.carrier⟩

theorem writePair_inv (n : Nibble) (v : Octet) (h : Inv s) : Inv (writePair n v s) :=
  writeCell_inv _ _ _ (writeCell_inv _ _ _ h)

theorem writeAsr_inv (v : Addr) (h : Inv s) : Inv (writeAsr v s) :=
  ⟨writeAsr_wf h.memory, ⟨h.addresses.1, truncAsrHigh_truncAsrHigh _ _⟩, h.fixedBits, h.mode, h.carrier⟩

theorem portWrite_inv (m : BitVec 1) (p : Port) (v : Nibble) (h : Inv s) : Inv (portWrite m p v s) := by
  obtain ⟨hm0, hp3, hp4⟩ := h.fixedBits
  cases p with
  | p0 => exact ⟨h.memory, h.addresses, h.fixedBits, h.mode, h.carrier⟩
  | p1 => exact h
  | p3 => exact ⟨h.memory, h.addresses, ⟨hm0, and_mask_idem _ _, hp4⟩, h.mode, h.carrier⟩
  | p4 => exact ⟨h.memory, h.addresses, ⟨hm0, hp3, and_mask_idem _ _⟩, h.mode, h.carrier⟩

theorem portWritePair_inv (p : Port) (v : Octet) (h : Inv s) : Inv (portWritePair p v s) :=
  portWrite_inv _ _ _ (portWrite_inv _ _ _ h)

/-- A timer write starts the low phase at its full length (R322). -/
theorem timerWrite_inv (v : Word10) (h : Inv s) (hm : s.mode = .run) : Inv (timerWrite v s) where
  memory := h.memory
  addresses := h.addresses
  fixedBits := h.fixedBits
  mode := modeLegal_of_run hm
  carrier := fun _ _ => BitVec.le_refl (m0Modulo s)

/-- A write of a modulo register while the output is active makes REM unspecified, so the counter need not be
within the new phase (R328). -/
theorem carrierInPhase_of_modulo_write (hact : outputActive t = outputActive s)
    (hspec : outputActive s = true → t.carrier.unspecified = true) : carrierInPhase t := by
  cases ho : outputActive s with
  | false => exact carrierInPhase_of_inactive (hact.trans ho)
  | true => exact carrierInPhase_of_unspecified (hspec ho)

theorem writeM0_inv (v : Word10) (h : Inv s) : Inv (writeM0 v s) where
  memory := h.memory
  addresses := h.addresses
  fixedBits := ⟨and_mask_idem _ _, h.fixedBits.2⟩
  mode := h.mode
  carrier := carrierInPhase_of_modulo_write (s := s) rfl fun ho => by simp [writeM0, ho]

theorem writeM1_inv (v : Word10) (h : Inv s) : Inv (writeM1 v s) where
  memory := h.memory
  addresses := h.addresses
  fixedBits := h.fixedBits
  mode := h.mode
  carrier := carrierInPhase_of_modulo_write (s := s) rfl fun ho => by simp [writeM1, ho]

/-- HALT mode and STOP mode are entered with a listed operand and F 0, STOP mode with the timer cleared (R275,
R340, R341). -/
theorem enterStandby_inv {d : Nibble} (hd : haltListed d = true) (hf : s.f = false) (h : Inv s) :
    Inv (enterStandby d s) := by
  unfold enterStandby
  split
  next htimer => exact ⟨h.memory, h.addresses, h.fixedBits, ⟨htimer, hf⟩, h.carrier⟩
  next hstop =>
    exact ⟨h.memory, h.addresses, h.fixedBits, ⟨hd, eq_false_of_ne_true hstop, hf, rfl, rfl⟩,
      carrierInPhase_of_stopped rfl⟩

theorem releaseHalt_inv (h : Inv s) : Inv (releaseHalt s) :=
  ⟨h.memory, h.addresses, h.fixedBits, trivial, h.carrier⟩

theorem releaseStop_inv (h : Inv s) : Inv (releaseStop s) :=
  ⟨h.memory, h.addresses, h.fixedBits, trivial, h.carrier⟩

theorem leaveReset_inv (h : Inv s) : Inv (leaveReset s) :=
  ⟨h.memory, h.addresses, h.fixedBits, trivial, h.carrier⟩

/-- The two parts of RESET_WAIT hold the same reset values (R352). -/
theorem releasePoc_inv {held : Bool} (hm : s.mode = .resetWait held) (h : Inv s) : Inv (releasePoc s) := by
  have hmode := h.mode
  rw [modeLegal, hm] at hmode
  exact ⟨h.memory, h.addresses, h.fixedBits, hmode, h.carrier⟩

theorem advanceFree_inv (h : Inv s) : Inv (advanceFree s) :=
  ⟨h.memory, h.addresses, h.fixedBits, h.mode, h.carrier⟩

theorem clearAfterStop_inv (h : Inv s) : Inv { s with afterStop := false } :=
  ⟨h.memory, h.addresses, h.fixedBits, h.mode, h.carrier⟩

theorem sample_inv (h : Inv s) : Inv (sample s) := by
  unfold sample
  split
  · exact h
  · exact ⟨h.memory, h.addresses, h.fixedBits, h.mode, h.carrier⟩

/-- The reset table meets the invariant from any state whose memory and ASR are in form (R71). -/
theorem resetState_inv {held : Bool} (hmem : (resetState held s).mem.wf)
    (hasr : truncAsrHigh s.params.part s.asrHigh = s.asrHigh) : Inv (resetState held s) where
  memory := hmem
  addresses := ⟨truncAddr_zero _, hasr⟩
  fixedBits := by
    have hp3 : (0x08 : Octet) &&& p3Mask s.params.part = 0x08 := by cases s.params.part <;> rfl
    have hp4 : (0x26 : Octet) &&& p4Mask = 0x26 := by decide
    refine ⟨and_mask_idem _ _, ?_, hp4⟩
    rw [resetState_p3, resetState_params, BitVec.and_assoc, hp3]
  mode := ⟨rfl, rfl, rfl, rfl, rfl, rfl⟩
  carrier := carrierInPhase_of_stopped rfl

theorem internalReset_inv (cause : ResetCause) (h : Inv s) : Inv (internalReset cause s) := by
  have hmem := internalReset_wf (cause := cause) h.memory
  cases cause with
  | spOverflow => exact resetState_inv hmem (truncAsrHigh_truncAsrHigh _ _)
  | poc | haltIllegal | rlzZero | spUnderflow => exact resetState_inv hmem h.addresses.2

theorem pocReset_inv (ramLost : Bool) (h : Inv s) : Inv (pocReset ramLost s) := by
  have hmem := pocReset_wf (ramLost := ramLost) h.memory
  cases ramLost with
  | false => exact resetState_inv hmem h.addresses.2
  | true => exact resetState_inv hmem (truncAsrHigh_truncAsrHigh _ _)

/-- A count event leaves what makes HALT mode legal alone, and does nothing in STOP mode and RESET_WAIT (R321). -/
theorem tick_modeLegal (h : modeLegal s) : modeLegal (tick s) := by
  cases hm : s.mode with
  | run => exact modeLegal_of_run (by simp [hm])
  | halt d => simpa [modeLegal, hm] using h
  | stop d => rwa [tick_stopped (by rw [hm]; rfl)]
  | resetWait held => rwa [tick_stopped (by rw [hm]; rfl)]

theorem tick_inv (h : Inv s) : Inv (tick s) := by
  cases hc : clockRuns s.mode with
  | false => rwa [tick_stopped hc]
  | true =>
    refine ⟨?_, ?_, ?_, tick_modeLegal h.mode, tick_carrierInPhase hc⟩
    · simpa using h.memory
    · simpa [addressesFit] using h.addresses
    · simpa [fixedBitsZero] using h.fixedBits

theorem ticks_inv (k : Nat) (h : Inv s) : Inv (ticks k s) := by
  induction k generalizing s with
  | zero => exact h
  | succ k ih => exact ih (tick_inv h)

theorem endCycles_inv (i : Instr) (h : Inv s) : Inv (endCycles i s) := by
  unfold endCycles
  split
  · exact advanceFree_inv h
  · exact advanceFree_inv (ticks_inv _ h)

/-! ### Instructions and steps keep it -/

/-- No effect of an instruction run in RUN breaks the invariant. -/
theorem effect_inv (he : Effect i s t) (hm : s.mode = .run) (h : Inv s) : Inv t := by
  have hmt (n : Nibble) : (touchRf n s).mode = .run := by rw [touchRf_mode, hm]
  cases he with
  | toA => exact retire_inv _ (writeRegs_inv h hm) hm
  | cellToA n => exact retire_inv _ (writeRegs_inv (touchRf_inv n h) (hmt n)) (hmt n)
  | storeR0 n | storeR1 n => exact retire_inv _ (writeCell_inv _ _ _ (touchRf_inv n h)) (hmt n)
  | storePair n d => exact retire_inv _ (writePair_inv n d (touchRf_inv n h)) (hmt n)
  | storeTable n => exact retire_inv _ (writePair_inv n _ (touchRf_inv n h)) (hmt n)
  | out lower p => exact retire_inv _ (portWrite_inv _ p _ h) (by rw [portWrite_mode, hm])
  | outPair p d => exact retire_inv _ (portWritePair_inv p d h) (by rw [portWritePair_mode, hm])
  | timer v => exact retire_inv _ (timerWrite_inv v h hm) hm
  | loadM0 v => exact retire_inv _ (writeM0_inv v h) hm
  | loadM1 v => exact retire_inv _ (writeM1_inv v h) hm
  | nibbleToM0 v => exact retire_inv _ (writeRegs_inv (writeM0_inv v h) hm) hm
  | nibbleToM1 v => exact retire_inv _ (writeRegs_inv (writeM1_inv v h) hm) hm
  | sttsData => exact retire_inv _ (writeRegs_inv h hm) hm
  | sttsCell n => exact retire_inv _ (writeRegs_inv (touchRf_inv n h) (hmt n)) (hmt n)
  | haltPasses => exact writeRegs_inv (retire_inv 2 h hm) hm
  | haltWaits d hd hf => exact enterStandby_inv hd hf (retire_inv 2 h hm)
  | jump => exact jump_inv (by split <;> simp) h hm
  | call => exact writeRegs_inv (jump_inv (truncAddr_jumpTarget _ _ _) (writeAsr_inv _ h) hm) hm
  | ret => exact writeRegs_inv (jump_inv (truncAddr_truncAddr _ _) h hm) hm
  | nop => exact retire_inv _ h hm
  | reset cause => exact internalReset_inv cause h

theorem runInstr_inv (h : Inv s) (hm : s.mode = .run) (hrun : runInstr s = .next t) : Inv t := by
  obtain ⟨i, v, -, -, hexec, rfl⟩ := runInstr_next_iff.1 hrun
  exact endCycles_inv i (effect_inv (exec_effect hexec) hm (clearAfterStop_inv h))

end

/-- Settles O54, along what a step can do: a supply reset, an instruction, or a moment of a wait. -/
theorem stepKeepsInvariant : Obligations.StepKeepsInvariant := by
  intro s t h hstep
  have hs := sample_inv h
  have hmode := sample_mode s
  rcases step_next_cases hstep with ⟨-, rfl⟩ | ⟨-, rfl⟩ | ⟨-, hrun | hhalt | hstop | hreset⟩
  · exact advanceFree_inv (pocReset_inv false hs)
  · exact advanceFree_inv (pocReset_inv true hs)
  · obtain ⟨hm, hnext⟩ := hrun
    exact runInstr_inv hs (hmode.trans hm) hnext
  · obtain ⟨d, -, ⟨-, hnext⟩ | ⟨-, rfl⟩⟩ := hhalt
    · exact runInstr_inv (releaseHalt_inv hs) rfl hnext
    · exact advanceFree_inv (tick_inv hs)
  · obtain ⟨d, -, ⟨-, rfl⟩ | ⟨-, rfl⟩⟩ := hstop
    · exact advanceFree_inv (releaseStop_inv hs)
    · exact advanceFree_inv hs
  · obtain ⟨held, hm, -, ⟨-, rfl⟩ | ⟨-, rfl⟩⟩ := hreset
    · exact advanceFree_inv (leaveReset_inv hs)
    · exact advanceFree_inv (releasePoc_inv (hmode.trans hm) hs)

/-- Settles O55. -/
theorem resetMeetsInvariant : Obligations.ResetMeetsInvariant where
  memory := reset_mem_wf
  addresses := ⟨rfl, rfl⟩
  fixedBits := ⟨rfl, rfl, rfl⟩
  mode := ⟨rfl, rfl, rfl, rfl, rfl, rfl⟩
  carrier := carrierInPhase_of_stopped rfl

end Sys2Proof.Machine

/-! ## Port reads, the data pointer and the reset table (R36, R51 to R53, R59, R63, R71, R87, R92) -/

namespace Sys2Proof.Machine

/-! ### Port reads -/

theorem readLedBit_input {s : State} (h : s.p4.getLsbD 2 = false) : readLedBit s = s.env.pins.s1 := by
  simp only [readLedBit, h, Bool.false_eq_true, if_false]

/-- In LED mode the bit is the LED level, outside the boundary cycle of R330. -/
theorem readLedBit_led {s : State} (h : s.p4.getLsbD 2 = true)
    (hb : (outputActive s && timerCount s == 0) = false) : readLedBit s = !outputActive s := by
  simp only [readLedBit, h, hb, Bool.false_eq_true, if_true, if_false]

/-- In LED mode the LED is off, and read as 1, while the timer is stopped (R327). -/
theorem readLedBit_stopped {s : State} (h : s.p4.getLsbD 2 = true) (ht : s.trun = false) :
    readLedBit s = true := by
  have hoff := outputActive_of_stopped ht
  rw [readLedBit_led h (by rw [hoff, Bool.false_and]), hoff, Bool.not_false]

theorem readS0Bit_input {s : State} (h : s.p4.getLsbD 0 = true) : readS0Bit s = s.env.pins.s0 := if_pos h

theorem readS0Bit_off {s : State} (h : s.p4.getLsbD 0 = false) : readS0Bit s = true :=
  if_neg (by simp only [h]; decide)

theorem portValue_p0_output {s : State} (h : s.p4.getLsbD 1 = true) : portValue .p0 s = s.p0Latch := if_pos h

theorem portValue_p0_input {s : State} (h : s.p4.getLsbD 1 = false) : portValue .p0 s = s.env.pins.kio :=
  if_neg (by simp only [h]; decide)

/-- Where the fields of the P1 read value stand (R52). -/
theorem p1Fields_bits (ki : Nibble) (b3 b2 b1 : Bool) :
    let v : Octet := ki ++ ((BitVec.ofBool b3 ++ BitVec.ofBool b2) ++ (BitVec.ofBool b1 ++ 1#1))
    (∀ k, k < 4 → v.getLsbD (k + 4) = ki.getLsbD k) ∧
      v.getLsbD 3 = b3 ∧ v.getLsbD 2 = b2 ∧ v.getLsbD 1 = b1 ∧ v.getLsbD 0 = true := by
  revert ki b3 b2 b1
  decide

theorem portValue_p3 (s : State) : portValue .p3 s = s.p3 &&& p3Mask s.params.part := rfl

theorem portValue_p4 (s : State) : portValue .p4 s = s.p4 &&& p4Mask := rfl

/-- P3 bits 7 to 3 can be written on every part, bit 2 on none, bits 1 and 0 on the µPD69 (R59). -/
theorem p3Mask_upper (p : Part) : ∀ k < 8, 3 ≤ k → (p3Mask p).getLsbD k = true := by
  cases p <;> decide

theorem p3Mask_two (p : Part) : (p3Mask p).getLsbD 2 = false := by cases p <;> rfl

theorem p3Mask_page (p : Part) :
    (p3Mask p).extractLsb' 0 2 = if p = .upd69 then BitVec.allOnes 2 else 0 := by
  cases p <;> decide

/-- P4 bits 5 to 0 can be written (R63). -/
theorem p4Mask_lower : ∀ k < 6, p4Mask.getLsbD k = true := by decide

theorem p4Mask_high : p4Mask.extractLsb' 6 2 = 0 := by decide

/-- Settles O17, register by register. -/
theorem portReadValues : Obligations.PortReadValues := by
  intro s
  obtain ⟨hki, hled, hs0, hs2, hone⟩ :=
    p1Fields_bits s.env.pins.ki (readLedBit s) (readS0Bit s) s.env.pins.s2
  refine ⟨fun p => ⟨rfl, rfl⟩, portValue_p0_output, portValue_p0_input, hki,
    fun h => hled.trans (readLedBit_input h), fun h hb => hled.trans (readLedBit_led h hb),
    fun h => hs0.trans (readS0Bit_input h), fun h => hs0.trans (readS0Bit_off h), hs2, hone,
    fun k hk hk8 => ?p3Upper, ?p3Two, fun h => ?p3Fixed, fun h => ?p3Page, fun k hk => ?p4Lower, ?p4High⟩
  case p3Upper => rw [portValue_p3, BitVec.getLsbD_and, p3Mask_upper _ k hk8 hk, Bool.and_true]
  case p3Two => rw [portValue_p3, BitVec.getLsbD_and, p3Mask_two, Bool.and_false]
  case p3Fixed => rw [portValue_p3, BitVec.extractLsb'_and, p3Mask_page, if_neg h]; exact BitVec.and_zero
  case p3Page => rw [portValue_p3, BitVec.extractLsb'_and, p3Mask_page, if_pos h, BitVec.and_allOnes]
  case p4Lower => rw [portValue_p4, BitVec.getLsbD_and, p4Mask_lower k hk, Bool.and_true]
  case p4High => rw [portValue_p4, BitVec.extractLsb'_and, p4Mask_high]; exact BitVec.and_zero

/-! ### The data pointer -/

/-- With page 0 selected or under `paged`, R0 and RF are those of the selected page (R92). -/
theorem r0RfPage_of_selected {s : State} (h : ramPage s = 0 ∨ s.params.paged = .paged) :
    r0RfPage s = ramPage s := by
  unfold r0RfPage
  rcases h with h | h
  · rw [h, ite_self]
  · exact if_pos h

theorem r0RfPage_page0 {s : State} (h : s.params.paged = .page0) : r0RfPage s = 0 :=
  if_neg (by rw [h]; decide)

/-- DP in the cells of the selected page, where R0 is that page's (R36). -/
theorem dataPointer_of_selected {s : State} (h : r0RfPage s = ramPage s) :
    dataPointer s = s.p3.extractLsb' 4 4 ++ (readCell 1 0 s ++ readCell 0 0 s) := by
  rw [dataPointer, h]
  rfl

/-- Settles O26, by the page whose R0 feeds DP. -/
theorem tableWordAtDataPointer : Obligations.TableWordAtDataPointer := by
  intro s
  refine ⟨fun w hw => ?defined, fun h => ?page0Selected, fun h => ?paged, fun h => ?page0⟩
  case defined => rw [tableWord, hw, Option.getD_some]
  case page0Selected => exact dataPointer_of_selected (r0RfPage_of_selected (.inl h))
  case paged => exact dataPointer_of_selected (r0RfPage_of_selected (.inr h))
  case page0 => rw [dataPointer, r0RfPage_page0 h]

/-! ### The reset table -/

/-- What the cause of a reset leaves before the reset table is applied: a stack overflow has lost ASR (R231). -/
def beforeReset (cause : ResetCause) (s : State) : State :=
  if cause = .spOverflow then forgetAsr s else s

theorem internalReset_eq_resetState (cause : ResetCause) (s : State) :
    internalReset cause s = resetState (cause == .poc) (beforeReset cause s) := by
  cases cause <;> rfl

theorem beforeReset_of_ne {cause : ResetCause} (s : State) (h : cause ≠ .spOverflow) :
    beforeReset cause s = s :=
  if_neg h

theorem beforeReset_readRom (cause : ResetCause) (s : State) (c : Nat) :
    (beforeReset cause s).mem.readRom c = s.mem.readRom c := by
  cases cause <;> rfl

/-- Only RF is lost, and only by a stack overflow (R231). -/
theorem beforeReset_readRam {cause : ResetCause} {s : State} {c : Nat}
    (h : cause = .spOverflow → c ≠ ramAddr (r0RfPage s) 0 15 ∧ c ≠ ramAddr (r0RfPage s) 1 15) :
    (beforeReset cause s).mem.readRam c = s.mem.readRam c := by
  by_cases hc : cause = .spOverflow
  · obtain ⟨h0, h1⟩ := h hc
    rw [beforeReset, if_pos hc, forgetAsr, readRam_writeRam, if_neg h0.symm, readRam_writeRam, if_neg h1.symm]
  · rw [beforeReset_of_ne s hc]

/-- A reset clears both cells of R0 of page 0 and leaves the other cells alone (R92). -/
theorem resetState_readRam (held : Bool) (s : State) (c : Nat) :
    (resetState held s).mem.readRam c =
      if c = ramAddr 0 0 0 ∨ c = ramAddr 0 1 0 then 0 else s.mem.readRam c := by
  rw [resetState, readRam_writeRam, readRam_writeRam, ite_or]
  simp only [eq_comm]

theorem resetState_m0_fixed (held : Bool) (s : State) : (resetState held s).m0.getLsbD 9 = false := by
  rw [resetState_m0, BitVec.getLsbD_and, show m0Mask.getLsbD 9 = false from rfl, Bool.and_false]

/-- Settles O42: the reset table, applied to what the cause left. -/
theorem resetTable : Obligations.ResetTable := by
  rintro cause s _ rfl
  refine ⟨by cases cause <;> rfl, ?_⟩
  rw [internalReset_eq_resetState]
  refine ⟨resetState_m0_fixed _ _, ?r00, ?r10, fun c h0 h1 hrf => ?others, fun hc => ?asr, fun c => ?rom⟩
  case r00 => rw [resetState_readRam, if_pos (.inl rfl)]
  case r10 => rw [resetState_readRam, if_pos (.inr rfl)]
  case others => rw [resetState_readRam, if_neg (not_or.2 ⟨h0, h1⟩), beforeReset_readRam hrf]
  case asr => rw [resetState_asrHigh, beforeReset_of_ne s hc]
  case rom => exact beforeReset_readRom cause s c

/-- Settles O43. P1 is read in LED mode with the output not active, S0 in OFF mode (P4 is 26H). -/
theorem resetStateValues : Obligations.ResetStateValues := by
  refine ⟨rfl, rfl, rfl, rfl, rfl, rfl, rfl, rfl, rfl, rfl, rfl, by decide, rfl, by decide, by decide, fun e => ?_⟩
  have hledMode : (0x26 : Octet).getLsbD 2 = true := by decide
  have hs0Off : (0x26 : Octet).getLsbD 0 = false := by decide
  have hled : readLedBit { State.reset with env := e } = true := readLedBit_stopped hledMode rfl
  have hs0 : readS0Bit { State.reset with env := e } = true := readS0Bit_off hs0Off
  rw [portValue, hled, hs0]
  rfl

end Sys2Proof.Machine

/-! ## What the decoder reads (R112, R113, R115 to R120, R125, R126) -/

namespace Sys2Proof.Machine

/-! ### The first word of an instruction with a cell operand (R114) -/

@[simp] theorem cellWord_opcode (p : BitVec 6) (n : Nibble) :
    (p ++ n : Word10).extractLsb' 6 4 = p.extractLsb' 2 4 := by
  revert p n; decide +kernel

@[simp] theorem cellWord_half (p : BitVec 6) (n : Nibble) : (p ++ n : Word10)[5] = p[1] := by
  rw [BitVec.getElem_append]; rfl

@[simp] theorem selOf_cellWord {p : BitVec 6} (n : Nibble) (h : p.getLsbD 0 = false) :
    selOf (p ++ n : Word10) = .cell n := by
  revert p n; decide +kernel

/-- A word is its upper six bits and the cell number below them. -/
theorem eq_cellWord {w : Word10} {p : BitVec 6} (h : w.extractLsb' 4 6 = p) : w = p ++ w.extractLsb' 0 4 := by
  subst h; revert w; decide +kernel

/-- A data4 word with the printed zeros is below 16 (R115, R126). -/
theorem data4Clear_of_le {v : Word10} (h : 16 ≤ v.toNat) : data4Clear v = false := by
  revert v; decide +kernel

/-! ### One rule per form of the first word -/

section
variable {lay : AddrLayout} {w : Word10} {ws : List Word10}

theorem decode_word1 {i : Instr} (h : decodeFirst w = some (.word1 i)) : decode lay (w :: ws) = .ok (i, ws) := by
  simp [decode, h]

theorem decode_data4 {mk : Nibble → Instr} (h : decodeFirst w = some (.data4 mk)) (d : Nibble) :
    decode lay (w :: (0#6 ++ d) :: ws) = .ok (mk d, ws) := by
  simp [decode, h]

theorem decode_data8 {mk : Octet → Instr} (h : decodeFirst w = some (.data8 mk)) (d : Octet) :
    decode lay (w :: data8Word d :: ws) = .ok (mk d, ws) := by
  simp [decode, h]

theorem decode_data10 {mk : Word10 → Instr} (h : decodeFirst w = some (.data10 mk)) (d : Word10) :
    decode lay (w :: data10Word d :: ws) = .ok (mk d, ws) := by
  simp [decode, h]

theorem decode_addr {mk : Word10 → Instr} (h : decodeFirst w = some (.addr mk)) (a : Word10) :
    decode lay (w :: addrWord lay a :: ws) = .ok (mk a, ws) := by
  simp [decode, h]

theorem decode_call {mk : Word10 → Instr} {w1 : Word10} (h : decodeFirst w = some .call)
    (hp : callPage w1 = some mk) (a : Word10) : decode lay (w :: w1 :: addrWord lay a :: ws) = .ok (mk a, ws) := by
  simp [decode, h, hp]

/-- R126: a data4 word with a bit above bit 3 is refused. -/
theorem decode_data4_bits {mk : Nibble → Instr} {v : Word10} (h : decodeFirst w = some (.data4 mk))
    (hv : 16 ≤ v.toNat) : decode lay (w :: v :: ws) = .error .operandBits := by
  simp [decode, h, data4Clear_of_le hv]

/-- R126: a data8 word with bit 9 or bit 4 set is refused. -/
theorem decode_data8_bits {mk : Octet → Instr} {v : Word10} (h : decodeFirst w = some (.data8 mk))
    (hv : (v.getLsbD 9 || v.getLsbD 4) = true) : decode lay (w :: v :: ws) = .error .operandBits := by
  have hclear : data8Clear v = false := by rw [data8Clear, ← Bool.not_or, hv, Bool.not_true]
  simp [decode, h, hclear]

/-- R120: the CALL first word is followed by a JMP first word. -/
theorem decode_call_of_not_jump {v : Word10} (h : decodeFirst w = some .call) (hp : callPage v = none) :
    decode lay (w :: v :: ws) = .error .callPrefix := by
  simp [decode, h, hp]

/-- The decoder reads the words its first word announces and no others (R112). -/
theorem decode_reads_form {i : Instr} {rest : List Word10} (h : decode lay (w :: ws) = .ok (i, rest)) :
    ∃ form vs, decodeFirst w = some form ∧ ws = vs ++ rest ∧ vs.length = formWords form - 1 ∧
      decode lay (w :: vs) = .ok (i, []) := by
  cases hw : decodeFirst w with
  | none => simp [decode, hw] at h
  | some form =>
    refine ⟨form, ?_⟩
    cases form with
    | word1 j =>
      rw [decode_word1 hw] at h
      cases h
      exact ⟨[], rfl, rfl, rfl, decode_word1 hw⟩
    | data4 mk | data8 mk =>
      rcases ws with _ | ⟨w1, ws⟩ <;> simp only [decode, hw] at h
      · cases h
      · split at h
        next hclear =>
          cases h
          exact ⟨[w1], rfl, rfl, rfl, by simp [decode, hw, hclear]⟩
        next => cases h
    | data10 mk | addr mk =>
      rcases ws with _ | ⟨w1, ws⟩ <;> simp only [decode, hw] at h <;> cases h
      exact ⟨[w1], rfl, rfl, rfl, by simp [decode, hw]⟩
    | call =>
      rcases ws with _ | ⟨w1, ws⟩ <;> simp only [decode, hw] at h
      · cases h
      · cases hp : callPage w1 with
        | none => simp [hp] at h
        | some mk =>
          rcases ws with _ | ⟨w2, ws⟩ <;> simp only [hp] at h <;> cases h
          exact ⟨[w1, w2], rfl, rfl, rfl, by simp [decode, hw, hp]⟩

/-- R121, R127: a well-formed instruction is decoded from its own words, whatever words follow. -/
theorem decode_encode (lay : AddrLayout) {i : Instr} (ws : List Word10) (hi : i.wellFormed = true) :
    decode lay (encode lay i ++ ws) = .ok (i, ws) := by
  cases i with
  | anlR0n n | anlR1n n | orlR0n n | orlR1n n | xrlR0n n | xrlR1n n | movAR0n n | movAR1n n
  | movR0nA n | movR1nA n | sttsR0n n => exact decode_word1 (by simp [decodeFirst])
  | movRnData8 n d => exact decode_data8 (by simp [decodeFirst]) d
  | movRnTab n =>
    have hn : n ≠ 0#4 := by simpa [Instr.wellFormed] using hi
    exact decode_word1 (by simp [decodeFirst, hn])
  | anlData4 d | orlData4 d | xrlData4 d | movAData4 d | haltData4 d | sttsData4 d => exact decode_data4 rfl d
  | outP0Data8 d | outP1Data8 d | outP3Data8 d | outP4Data8 d => exact decode_data8 rfl d
  | movTData10 d | movM0Data10 d | movM1Data10 d => exact decode_data10 rfl d
  | jmpPage0 a | jmpPage1 a | jmpPage2 a | jmpPage3 a | jcPage0 a | jcPage1 a | jcPage2 a | jcPage3 a
  | jncPage0 a | jncPage1 a | jncPage2 a | jncPage3 a | jfPage0 a | jfPage1 a | jfPage2 a | jfPage3 a
  | jnfPage0 a | jnfPage1 a | jnfPage2 a | jnfPage3 a => exact decode_addr rfl a
  | callPage0 a | callPage1 a | callPage2 a | callPage3 a => exact decode_call rfl rfl a
  | _ => exact decode_word1 rfl

end

end Sys2Proof.Machine

/-! ## The fetch (R82 to R84, R86, R127) -/

namespace Sys2Proof.Machine

/-! ### One word and several -/

theorem fetchWord_of_wordAt {s : State} {k : Nat} {w : Word10} (h : Sys2Proof.Claims.wordAt s k w) :
    fetchWord s k = .ok w := by
  obtain ⟨hm, hw⟩ := h
  simp [fetchWord, hm, hw]

theorem fetchWord_of_unmounted {s : State} {k : Nat} (h : mounted s.params.part (s.nextPc k) = false) :
    fetchWord s k = .error .fetchOutsideMounted := by
  simp [fetchWord, h]

theorem fetchWord_of_undefined {s : State} {k : Nat} (hm : mounted s.params.part (s.nextPc k) = true)
    (hw : s.mem.readRom (s.nextPc k).toNat = none) : fetchWord s k = .error .fetchUndefinedWord := by
  simp [fetchWord, hm, hw]

theorem fetchWords_ok {s : State} {ws : List Word10} {k : Nat}
    (h : ∀ j w, ws[j]? = some w → fetchWord s (k + j) = .ok w) : fetchWords s k ws.length = .ok ws := by
  induction ws generalizing k with
  | nil => rfl
  | cons w ws ih =>
    have hfirst : fetchWord s k = .ok w := h 0 w rfl
    have hrest : fetchWords s (k + 1) ws.length = .ok ws :=
      ih fun j v hv => by rw [Nat.add_right_comm]; exact h (j + 1) v hv
    simp [fetchWords, hfirst, hrest]

theorem fetchWords_one {s : State} {k : Nat} {w : Word10} (h : fetchWord s k = .ok w) :
    fetchWords s k 1 = .ok [w] := by
  simp [fetchWords, h]

theorem fetchWords_two {s : State} {k : Nat} {v w : Word10} (hv : fetchWord s k = .ok v)
    (hw : fetchWord s (k + 1) = .ok w) : fetchWords s k 2 = .ok [v, w] := by
  simp [fetchWords, hv, hw]

/-- The first of the words that cannot be fetched stops the fetch. -/
theorem fetchWords_fault_first {s : State} {k : Nat} {r : Fault} (h : fetchWord s k = .error r) {n : Nat}
    (hn : n ≠ 0) : fetchWords s k n = .error r := by
  obtain ⟨m, rfl⟩ := Nat.exists_eq_succ_of_ne_zero hn
  simp [fetchWords, h]

theorem fetchWords_fault_second {s : State} {k : Nat} {w : Word10} {r : Fault} (hw : fetchWord s k = .ok w)
    (h : fetchWord s (k + 1) = .error r) : fetchWords s k 2 = .error r := by
  simp [fetchWords, hw, h]

/-! ### The instruction -/

section
variable {s : State} {w : Word10} {form : Form} {r : Fault}

theorem fetchInstr_fault_first (h : fetchWord s 0 = .error r) : fetchInstr s = .fault r := by
  simp [fetchInstr, h]

theorem fetchInstr_undefined (hw : fetchWord s 0 = .ok w) (h : decodeFirst w = none) :
    fetchInstr s = .refused .undefinedInstruction := by
  simp [fetchInstr, hw, h]

theorem fetchInstr_fault_operand (hw : fetchWord s 0 = .ok w) (hform : decodeFirst w = some form)
    (h : fetchWords s 1 (formWords form - 1) = .error r) : fetchInstr s = .fault r := by
  simp [fetchInstr, hw, hform, h]

theorem fetchInstr_refused {ws : List Word10} {e : DecodeError} (hw : fetchWord s 0 = .ok w)
    (hform : decodeFirst w = some form) (hws : fetchWords s 1 (formWords form - 1) = .ok ws)
    (h : decode s.params.layout (w :: ws) = .error e) : fetchInstr s = .refused (decodeRefusal e) := by
  simp [fetchInstr, hw, hform, hws, h]

/-- Where the fetch finds words that decode, it answers the instruction they decode to. -/
theorem fetchInstr_of_decode {ws rest : List Word10} {i : Instr}
    (hws : ∀ k v, ws[k]? = some v → fetchWord s k = .ok v) (h : decode s.params.layout ws = .ok (i, rest)) :
    fetchInstr s = .ok i := by
  cases ws with
  | nil => simp [decode] at h
  | cons w ws =>
    obtain ⟨form, vs, hform, rfl, hlen, hdec⟩ := decode_reads_form h
    have hfirst : fetchWord s 0 = .ok w := hws 0 w rfl
    have hoperands : fetchWords s 1 (formWords form - 1) = .ok vs := by
      rw [← hlen]
      refine fetchWords_ok fun j v hv => ?_
      rw [Nat.add_comm]
      exact hws (j + 1) v (by simp [List.getElem?_append_left (List.getElem?_eq_some_iff.1 hv).1, hv])
    simp [fetchInstr, hfirst, hform, hoperands, hdec]

end

/-- Settles O7. -/
theorem fetchReadsEncoding : Obligations.FetchReadsEncoding := by
  intro s i hi hwords
  have hdec := decode_encode s.params.layout [] hi
  rw [List.append_nil] at hdec
  exact fetchInstr_of_decode (fun k w hw => fetchWord_of_wordAt (hwords k w hw)) hdec

/-! ### A program placed in program memory (log 28) -/

/-- Below the end of mounted memory no address is cut (R20, R82). -/
theorem truncAddr_of_mounted {p : Part} {a : Addr} (h : mounted p a = true) : truncAddr p a = a := by
  unfold truncAddr
  split
  · rfl
  next hbits =>
    have hsize : romSteps p ≤ 2 ^ 11 := by cases p <;> simp_all [pcBits, romSteps]
    have hlt : a.toNat < romSteps p := of_decide_eq_true h
    apply BitVec.eq_of_toNat_eq
    rw [BitVec.toNat_and]
    exact (Nat.and_two_pow_sub_one_eq_mod _ 11).trans (Nat.mod_eq_of_lt (by omega))

/-- Within mounted memory the addresses after PC are those numbers. -/
theorem truncAddr_offset {p : Part} {pc : Addr} {k : Nat} (h : pc.toNat + k < romSteps p) :
    (truncAddr p (pc + BitVec.ofNat 12 k)).toNat = pc.toNat + k ∧
      mounted p (truncAddr p (pc + BitVec.ofNat 12 k)) = true := by
  have hsize : romSteps p < 4096 := by cases p <;> decide
  have hsum : (pc + BitVec.ofNat 12 k).toNat = pc.toNat + k := by simp; omega
  have hm : mounted p (pc + BitVec.ofNat 12 k) = true := by rw [mounted, hsum]; exact decide_eq_true h
  rw [truncAddr_of_mounted hm]
  exact ⟨hsum, hm⟩

/-- Storing words leaves the addresses before them alone. -/
theorem readRom_storeWords_before {p : Part} {pc : Addr} {ws : List Word10} {k a : Nat} {m : Memory}
    (hfit : pc.toNat + k + ws.length ≤ romSteps p) (ha : a < pc.toNat + k) :
    (storeWords p pc k ws m).readRom a = m.readRom a := by
  induction ws generalizing k m with
  | nil => rfl
  | cons w ws ih =>
    rw [List.length_cons] at hfit
    obtain ⟨haddr, -⟩ := truncAddr_offset (p := p) (pc := pc) (k := k) (by omega)
    rw [storeWords, ih (by omega) (by omega), readRom_writeRom, haddr, if_neg (by omega)]

/-- Each stored word is read at its place. -/
theorem readRom_storeWords {p : Part} {pc : Addr} {ws : List Word10} {k j : Nat} {m : Memory} {w : Word10}
    (hfit : pc.toNat + k + ws.length ≤ romSteps p) (hw : ws[j]? = some w) :
    (storeWords p pc k ws m).readRom (pc.toNat + (k + j)) = some w := by
  induction ws generalizing k j m with
  | nil => simp at hw
  | cons v ws ih =>
    rw [List.length_cons] at hfit
    rw [storeWords]
    cases j with
    | zero =>
      cases hw
      obtain ⟨haddr, -⟩ := truncAddr_offset (p := p) (pc := pc) (k := k) (by omega)
      rw [readRom_storeWords_before (by omega) (by omega), readRom_writeRom, haddr, Nat.add_zero, if_pos rfl]
    | succ j =>
      have hnext := ih (k := k + 1) (m := m.writeRom (truncAddr p (pc + BitVec.ofNat 12 k)).toNat v) (by omega) hw
      rwa [show k + 1 + j = k + (j + 1) by omega] at hnext

/-- The words `placeProgram` places are those the next fetch finds. -/
theorem fetchWord_placeProgram {s : State} {ws : List Word10} {k : Nat} {w : Word10}
    (hfit : s.pc.toNat + ws.length ≤ romSteps s.params.part) (hw : ws[k]? = some w) :
    fetchWord (placeProgram ws s) k = .ok w := by
  have hk : k < ws.length := (List.getElem?_eq_some_iff.1 hw).1
  obtain ⟨haddr, hm⟩ := truncAddr_offset (p := s.params.part) (pc := s.pc) (k := k) (by omega)
  have hread := readRom_storeWords (k := 0) (m := s.mem) hfit hw
  rw [Nat.zero_add, ← haddr] at hread
  exact fetchWord_of_wordAt ⟨hm, hread⟩

/-! ### The step in RUN (R96, R320, R321) -/

/-- In RUN with a normal supply a step is one instruction on the sampled state. -/
theorem step_of_run {s : State} (hm : s.mode = .run) (hs : (sample s).env.supply = .normal) :
    step s = runInstr (sample s) := by
  simp [step, cycle, hs, modeCycle, hm]

/-- What a step makes of an instruction's outcome: a next state gets the count events. -/
def withCountEvents (i : Instr) : Out → Out
  | .next t => .next (endCycles i t)
  | .fault r => .fault r
  | .refused r => .refused r

/-- The instruction the fetch answers runs, and its count events follow; its stop is the step's. -/
theorem runInstr_of_fetch {s : State} {i : Instr} (hf : fetchInstr s = .ok i)
    (hnop : s.afterStop = true → i = .nop) :
    runInstr s = withCountEvents i (exec i { s with afterStop := false }) := by
  have hrun : ¬ (s.afterStop && i != .nop) = true := by simpa using hnop
  rw [runInstr, hf]
  simp only [runFetched]
  rw [if_neg hrun]
  rfl

/-- Settles O10: the placed words are fetched, and the state that holds them is in RUN with nothing pending. -/
theorem placedInstructionRuns : Obligations.PlacedInstructionRuns := by
  intro s nbits w i hlay hfit hdec
  have hfetch : fetchInstr (s.withFetchWord nbits w) = .ok i := by
    unfold decodeTableWord at hdec
    split at hdec
    next j rest hj =>
      cases hdec
      refine fetchInstr_of_decode (ws := tableWords nbits w) (rest := rest)
        (fun k v hv => fetchWord_placeProgram (by simp [tableWords]; omega) hv) ?_
      rw [State.withFetchWord, placeProgram, hlay, hj]
    next => cases hdec
  refine ⟨hfetch, (step_of_run rfl rfl).trans ((runInstr_of_fetch hfetch nofun).trans ?_)⟩
  change withCountEvents i (exec i (s.withFetchWord nbits w)) = _
  cases exec i (s.withFetchWord nbits w) <;> rfl

/-- The timer manipulation instructions (R322). -/
theorem writesTimer_iff {i : Instr} :
    writesTimer i = true ↔ i = .movT0A ∨ i = .movT1A ∨ (∃ d, i = .movTData10 d) ∨ i = .movTTab := by
  cases i <;> simp [writesTimer]

/-- CALL alone has three words, and it alone takes two machine cycles (R112, R390). -/
theorem cyclesOf_eq (i : Instr) : cyclesOf i = if instrWords i = 3 then 2 else 1 := by
  cases i <;> rfl

/-- The count events of an instruction, written out (R320, R321). -/
theorem endCycles_of_writesTimer {i : Instr} (t : State) (h : writesTimer i = true) :
    endCycles i t = { t with free := t.free + 1 } := by
  rw [endCycles, if_pos h, advanceFree]

theorem endCycles_of_not_writesTimer {i : Instr} (t : State) (h : ¬ writesTimer i = true) :
    endCycles i t =
      { (if instrWords i = 3 then tick (tick t) else tick t) with free := t.free + 1 } := by
  rw [endCycles, if_neg h, advanceFree, ticks_free, cyclesOf_eq]
  split <;> rfl

/-- Settles O8. -/
theorem stepRunsDecoded : Obligations.StepRunsDecoded := by
  intro s i hm hs hf hnop
  rw [step_of_run hm hs, runInstr_of_fetch hf (by simpa using hnop)]
  cases exec i { sample s with afterStop := false } with
  | fault r | refused r => rfl
  | next t =>
    by_cases ht : writesTimer i = true
    · simp only [withCountEvents, if_pos (writesTimer_iff.1 ht), endCycles_of_writesTimer t ht]
    · simp only [withCountEvents, if_neg (mt writesTimer_iff.2 ht), endCycles_of_not_writesTimer t ht]

/-! ### Where a step stops before the instruction runs (R83, R84, R125, R126, R280) -/

@[simp] theorem fetchWord_sample (s : State) (k : Nat) : fetchWord (sample s) k = fetchWord s k := by
  unfold sample
  split <;> rfl

@[simp] theorem fetchWords_sample (s : State) (k n : Nat) : fetchWords (sample s) k n = fetchWords s k n := by
  induction n generalizing k with
  | zero => rfl
  | succ n ih => simp [fetchWords, ih]

/-- The sample of the environment does not change what is fetched. -/
@[simp] theorem fetchInstr_sample (s : State) : fetchInstr (sample s) = fetchInstr s := by
  simp [fetchInstr]

section
variable {s : State} (hm : s.mode = .run) (hs : (sample s).env.supply = .normal)
include hm hs

theorem step_of_fetch_fault {r : Fault} (h : fetchInstr s = .fault r) : step s = .fault r := by
  simp [step_of_run hm hs, runInstr, h]

theorem step_of_fetch_refused {r : Refusal} (h : fetchInstr s = .refused r) : step s = .refused r := by
  simp [step_of_run hm hs, runInstr, h]

theorem step_of_not_nop {i : Instr} (ha : s.afterStop = true) (hf : fetchInstr s = .ok i) (hi : i ≠ .nop) :
    step s = .refused .notNopAfterStop := by
  simp [step_of_run hm hs, runInstr, hf, runFetched, ha, hi]

/-- A fetch that a missing word `k` stops makes the step fault by the name of what is missing. -/
theorem fetchFaults_of_stops {k : Nat} (h : ∀ r, fetchWord s k = .error r → fetchInstr s = .fault r) :
    Sys2Proof.Claims.fetchFaults s k :=
  ⟨fun hk => step_of_fetch_fault hm hs (h _ (fetchWord_of_unmounted hk)),
    fun hk hw => step_of_fetch_fault hm hs (h _ (fetchWord_of_undefined hk hw))⟩

/-- Words whose decoding is an error refuse the step by its name. -/
theorem step_of_decode_error {w : Word10} {form : Form} {ws : List Word10} {e : DecodeError}
    (hw : fetchWord s 0 = .ok w) (hform : decodeFirst w = some form)
    (hws : fetchWords s 1 (formWords form - 1) = .ok ws) (h : ∀ lay, decode lay (w :: ws) = .error e) :
    step s = .refused (decodeRefusal e) :=
  step_of_fetch_refused hm hs (fetchInstr_refused hw hform hws (h _))

end

/-- The first words a data4 word follows (R115). -/
theorem decodeFirst_data4 {w : Word10} (h : w ∈ [0b1111110001#10, 0b1101110001#10, 0b1110110001#10,
    0b1010110001#10, 0b0001010001#10, 0b0001110001#10]) : ∃ mk, decodeFirst w = some (.data4 mk) := by
  simp only [List.mem_cons, List.not_mem_nil, or_false] at h
  rcases h with rfl | rfl | rfl | rfl | rfl | rfl <;> exact ⟨_, rfl⟩

/-- The first words a data8 word follows (R116). -/
theorem decodeFirst_data8 {w : Word10} (h : w.extractLsb' 4 6 = 0b001100#6 ∨
    w ∈ [0b0011011000#10, 0b0011011001#10, 0b0011011011#10, 0b0011011100#10]) :
    ∃ mk, decodeFirst w = some (.data8 mk) := by
  rcases h with h | h
  · rw [eq_cellWord h]
    exact ⟨.movRnData8 (w.extractLsb' 0 4), by simp [decodeFirst]⟩
  · simp only [List.mem_cons, List.not_mem_nil, or_false] at h
    rcases h with rfl | rfl | rfl | rfl <;> exact ⟨_, rfl⟩

/-- A word that is no JMP first word names no page for CALL (R120). -/
theorem callPage_eq_none {w : Word10}
    (h : w ∉ [0b0100010001#10, 0b0100110001#10, 0b0100010100#10, 0b0100110100#10]) : callPage w = none := by
  simp only [List.mem_cons, List.not_mem_nil, or_false, not_or] at h
  obtain ⟨h0, h1, h2, h3⟩ := h
  simp [callPage, h0, h1, h2, h3]

/-- Settles O9, word by word in the order of R127. -/
theorem fetchStops : Obligations.FetchStops := by
  intro s hm hs
  refine ⟨?first, fun w form hw hform hlen => ?second, fun w v hcall hw => ⟨?third, fun hpage hv => ?callPrefix⟩,
    fun w hw hnone => ?undefined, fun w v hw hv => ⟨fun hform hbits => ?data4, fun hform hbits => ?data8⟩,
    fun i ha hf hi => ?afterStop⟩
  case first => exact fetchFaults_of_stops hm hs fun r => fetchInstr_fault_first
  case second =>
    exact fetchFaults_of_stops hm hs fun r h =>
      fetchInstr_fault_operand (fetchWord_of_wordAt hw) hform (fetchWords_fault_first h (by omega))
  case third =>
    exact fetchFaults_of_stops hm hs fun r h =>
      fetchInstr_fault_operand (fetchWord_of_wordAt hcall) (form := .call) rfl
        (fetchWords_fault_second (fetchWord_of_wordAt hw) h)
  case callPrefix =>
    exact step_of_decode_error hm hs (fetchWord_of_wordAt hcall) (form := .call) rfl
      (fetchWords_two (fetchWord_of_wordAt hw) (fetchWord_of_wordAt hv))
      fun _ => decode_call_of_not_jump rfl (callPage_eq_none hpage)
  case undefined =>
    exact step_of_fetch_refused hm hs (fetchInstr_undefined (fetchWord_of_wordAt hw) hnone)
  case data4 =>
    obtain ⟨mk, hmk⟩ := decodeFirst_data4 hform
    exact step_of_decode_error hm hs (fetchWord_of_wordAt hw) hmk (fetchWords_one (fetchWord_of_wordAt hv))
      fun _ => decode_data4_bits hmk hbits
  case data8 =>
    obtain ⟨mk, hmk⟩ := decodeFirst_data8 hform
    exact step_of_decode_error hm hs (fetchWord_of_wordAt hw) hmk (fetchWords_one (fetchWord_of_wordAt hv))
      fun _ => decode_data8_bits hmk hbits
  case afterStop => exact step_of_not_nop hm hs ha (by rwa [fetchInstr_sample] at hf) hi

end Sys2Proof.Machine

/-! ## What no step changes, and which uses are refused (R6, R85, R89, R92) -/

namespace Sys2Proof.Machine

/-! ### Program memory and the launch parameters (R6, R85) -/

/-- Program memory and the launch parameters are the same in both states. -/
def SameProgram (s t : State) : Prop := t.mem.rom = s.mem.rom ∧ t.params = s.params

theorem SameProgram.trans {s t u : State} (hst : SameProgram s t) (htu : SameProgram t u) : SameProgram s u :=
  ⟨htu.1.trans hst.1, htu.2.trans hst.2⟩

theorem sameProgram_sample (s : State) : SameProgram s (sample s) := by simp [SameProgram]

theorem sameProgram_tick (s : State) : SameProgram s (tick s) := by simp [SameProgram]

theorem sameProgram_endCycles (i : Instr) (s : State) : SameProgram s (endCycles i s) := by simp [SameProgram]

/-- A reset writes data memory at most (R85, R303). -/
theorem sameProgram_internalReset (cause : ResetCause) (s : State) : SameProgram s (internalReset cause s) := by
  cases cause <;> exact ⟨rfl, rfl⟩

/-- A loss of RAM leaves program memory alone (R85, R351). -/
theorem sameProgram_pocReset (ramLost : Bool) (s : State) : SameProgram s (pocReset ramLost s) := by
  cases ramLost with
  | false => exact sameProgram_internalReset .poc s
  | true =>
    have hlost : SameProgram s (loseRam s) := ⟨forgetCells_rom _ _ _, rfl⟩
    exact hlost.trans (sameProgram_internalReset .poc (loseRam s))

/-- No effect of an instruction reaches program memory: the moves to memory write data memory (R85). -/
theorem Effect.sameProgram {i : Instr} {s t : State} (h : Effect i s t) : SameProgram s t := by
  cases h with
  | reset cause => exact sameProgram_internalReset cause s
  | call => exact ⟨rfl, rfl⟩
  | _ => simp [SameProgram]

theorem sameProgram_of_runInstr {s t : State} (h : runInstr s = .next t) : SameProgram s t := by
  obtain ⟨i, v, -, -, hexec, rfl⟩ := runInstr_next_iff.1 h
  have hv : SameProgram s v := (exec_effect hexec).sameProgram
  exact hv.trans (sameProgram_endCycles i v)

/-- Settles O56, along what a step can do after the sample. -/
theorem programMemoryNeverChanges : Obligations.ProgramMemoryNeverChanges := by
  intro s t hstep
  refine SameProgram.trans (sameProgram_sample s) ?_
  rcases step_next_cases hstep with ⟨-, rfl⟩ | ⟨-, rfl⟩ | ⟨-, hrun | hhalt | hstop | hreset⟩
  · exact sameProgram_pocReset false (sample s)
  · exact sameProgram_pocReset true (sample s)
  · obtain ⟨-, hnext⟩ := hrun
    exact sameProgram_of_runInstr hnext
  · obtain ⟨d, -, ⟨-, hnext⟩ | ⟨-, rfl⟩⟩ := hhalt
    · exact SameProgram.trans (t := releaseHalt (sample s)) ⟨rfl, rfl⟩ (sameProgram_of_runInstr hnext)
    · exact sameProgram_tick (sample s)
  · obtain ⟨d, -, ⟨-, rfl⟩ | ⟨-, rfl⟩⟩ := hstop <;> exact ⟨rfl, rfl⟩
  · obtain ⟨held, -, -, ⟨-, rfl⟩ | ⟨-, rfl⟩⟩ := hreset <;> exact ⟨rfl, rfl⟩

/-! ### Refused uses of R0, RF and table words (R89, R92) -/

theorem withTable_of_pagedRefused {s : State} {k : Word10 → Out} (h : pagedRefused s = true) :
    withTable s k = .refused .pagedR0Rf :=
  if_pos h

theorem withTable_of_unmounted {s : State} {k : Word10 → Out} (h : pagedRefused s = false)
    (hm : mounted s.params.part (dataPointer s) = false) : withTable s k = .refused .tableOutsideMounted := by
  simp [withTable, h, hm]

theorem withCell_of_pagedRefused {n : Nibble} {s : State} {k : State → Out} (h : pagedRefused s = true)
    (hn : n = 0 ∨ n = 15) : withCell n s k = .refused .pagedR0Rf :=
  if_pos (by rcases hn with rfl | rfl <;> simp [cellRefused, h])

theorem callTo_of_pagedRefused {page : BitVec 2} {addr : Word10} {s : State}
    (hpage : hasPage s.params.part page = true) (h : pagedRefused s = true) :
    callTo page addr s = .refused .pagedR0Rf := by
  simp [callTo, hpage, h]

theorem execRet_of_pagedRefused {s : State} (h : pagedRefused s = true) : execRet s = .refused .pagedR0Rf :=
  if_pos h

/-- `MOV Rn,@R0` is a table read for every register number it can name (R197). -/
theorem execMovRnTab_of_ne {n : Nibble} {s : State} (h : n ≠ 0) :
    execMovRnTab n s =
      withTable s fun d => withCell n s fun t => .next (retire 1 (writePair n (data8Of d) t)) :=
  if_neg h

theorem exec_callInstr (page : BitVec 2) (addr : Word10) (s : State) :
    exec (Sys2Proof.Claims.callInstr page addr) s = callTo page addr s := by
  obtain rfl | rfl | rfl | rfl : page = 0 ∨ page = 1 ∨ page = 2 ∨ page = 3 := by revert page; decide
  all_goals rfl

/-- With P3[1:0] not 0 on the µPD69 another page than 0 is selected, which `refuse` refuses (R92). -/
theorem pagedRefused_of_selected {s : State} (hpart : s.params.part = .upd69) (hpaged : s.params.paged = .refuse)
    (hp3 : s.p3.extractLsb' 0 2 ≠ 0) : pagedRefused s = true := by
  have hpage : ramPage s = s.p3.extractLsb' 0 2 := if_pos (by rw [hpart]; rfl)
  simpa [pagedRefused, hpaged, hpage] using hp3

/-- The one-word table reads that name no register. -/
def tableReads : List Instr :=
  [.anlTabH, .anlTabL, .orlTabH, .orlTabL, .xrlTabH, .xrlTabL, .movATabH, .movATabL, .movTTab, .movM0Tab, .movM1Tab]

/-- A table read is refused where its table operand is. -/
theorem exec_tableRead_refused {i : Instr} {s : State} {r : Refusal} (hi : i ∈ tableReads)
    (h : ∀ k, withTable s k = .refused r) : exec i s = .refused r := by
  simp only [tableReads, List.mem_cons, List.not_mem_nil, or_false] at hi
  rcases hi with rfl | rfl | rfl | rfl | rfl | rfl | rfl | rfl | rfl | rfl | rfl <;>
    simp only [exec] <;> exact h _

/-- The instructions that access R0n or R1n, or the pair. -/
def cellUses (n : Nibble) (d : Octet) : List Instr :=
  [.anlR0n n, .anlR1n n, .orlR0n n, .orlR1n n, .xrlR0n n, .xrlR1n n, .movAR0n n, .movAR1n n, .movR0nA n,
    .movR1nA n, .movRnData8 n d, .sttsR0n n]

/-- An access to a cell is refused where its register operand is. -/
theorem exec_cellUse_refused {i : Instr} {n : Nibble} {d : Octet} {s : State} {r : Refusal}
    (hi : i ∈ cellUses n d) (h : ∀ k, withCell n s k = .refused r) : exec i s = .refused r := by
  simp only [cellUses, List.mem_cons, List.not_mem_nil, or_false] at hi
  rcases hi with rfl | rfl | rfl | rfl | rfl | rfl | rfl | rfl | rfl | rfl | rfl | rfl <;>
    simp only [exec] <;> exact h _

/-- Settles O27: each use is a table read, a cell access, CALL or RET, and each of these makes the test of R92 first. -/
theorem refusedUses : Obligations.RefusedUses := by
  intro s
  refine ⟨fun hpart hpaged hp3 => ?paged, fun hpaged hm => ⟨fun n hn => ?pairUnmounted, fun i hi => ?unmounted⟩⟩
  case paged =>
    have hrefused := pagedRefused_of_selected hpart hpaged hp3
    refine ⟨fun i hi => ?tableOrRet, fun n hn => ?pair, fun page addr => ?call, fun n d hn i hi => ?cell⟩
    case tableOrRet =>
      obtain hi | rfl : i ∈ tableReads ∨ i = .ret := by simpa [tableReads, or_assoc] using hi
      · exact exec_tableRead_refused hi fun _ => withTable_of_pagedRefused hrefused
      · exact execRet_of_pagedRefused hrefused
    case pair => exact (execMovRnTab_of_ne hn).trans (withTable_of_pagedRefused hrefused)
    case call =>
      rw [exec_callInstr]
      exact callTo_of_pagedRefused (by rw [hpart]; rfl) hrefused
    case cell => exact exec_cellUse_refused hi fun _ => withCell_of_pagedRefused hrefused hn
  case pairUnmounted => exact (execMovRnTab_of_ne hn).trans (withTable_of_unmounted hpaged hm)
  case unmounted => exact exec_tableRead_refused hi fun _ => withTable_of_unmounted hpaged hm

end Sys2Proof.Machine

/-! ## The decoder and the encoder undo each other, and what is no instruction (R111 to R127) -/

namespace Sys2Proof.Machine

/-! ### The first word from its fields (R113, R114) -/

/-- Bit 4 of a first word: 0 where the selector is a cell number. -/
def selTop : Sel → Nat
  | .cell _ => 0
  | _ => 1

/-- Bits 3 to 0 of a first word with the selector. -/
def selLow : Sel → Nibble
  | .cell n => n
  | .table => 0
  | .imm => 1
  | .callRet => 2
  | .accOnly => 3
  | .page23 => 4
  | .mod0 => 6
  | .mod1 => 7
  | .port p => 1#1 ++ Sys2Proof.Claims.portBits p
  | .timer => 15
  | .unused => 0

/-- The first word with opcode `op`, bit 5 `h` and the selector. -/
def firstWord (op : Nat) (h : Bool) (sel : Sel) : Word10 :=
  BitVec.ofNat 6 (4 * op + 2 * h.toNat + selTop sel) ++ selLow sel

/-- A word is put together again from the three fields the decoder takes from it. -/
theorem eq_firstWord {w : Word10} (hused : selOf w ≠ .unused) :
    w = firstWord (w.extractLsb' 6 4).toNat (w.getLsbD 5) (selOf w) := by
  revert w; decide +kernel

/-! ### The words of the form a first word names (R121) -/

/-- The instructions `mk` makes are well-formed, and their words are `w` and the words of the operand. -/
def encodesAs {α : Type} (w : Word10) (mk : α → Instr) (operand : AddrLayout → α → List Word10) : Prop :=
  ∀ x, (mk x).wellFormed = true ∧ ∀ lay, encode lay (mk x) = w :: operand lay x

theorem encode_of_encodesAs {α : Type} {w : Word10} {mk : α → Instr} {operand : AddrLayout → α → List Word10}
    {lay : AddrLayout} {x : α} {vs : List Word10} (h : encodesAs w mk operand) (hx : operand lay x = vs) :
    (mk x).wellFormed = true ∧ encode lay (mk x) = w :: vs := by
  obtain ⟨hwf, henc⟩ := h x
  exact ⟨hwf, by rw [henc, hx]⟩

/-- The first word `w` and the operand words its form announces are the encoding of the form's instructions. -/
def encodedFrom (w : Word10) : Form → Prop
  | .word1 i => encodesAs w (fun _ : Unit => i) fun _ _ => []
  | .data4 mk => encodesAs w mk fun _ d => [0#6 ++ d]
  | .data8 mk => encodesAs w mk fun _ d => [data8Word d]
  | .data10 mk => encodesAs w mk fun _ d => [data10Word d]
  | .addr mk => encodesAs w mk fun lay a => [addrWord lay a]
  | .call => ∀ w1 mk, callPage w1 = some mk → encodesAs w mk fun lay a => [w1, addrWord lay a]

/-- R120: the CALL first word, one of the four JMP first words and the addr word. -/
theorem encodedFrom_call : encodedFrom 0b0011010010#10 .call := by
  intro w1 mk hpage
  have hw : w1 ∈ [0b0100010001#10, 0b0100110001#10, 0b0100010100#10, 0b0100110100#10] := by
    by_contra hw
    rw [callPage_eq_none hw] at hpage
    cases hpage
  simp only [List.mem_cons, List.not_mem_nil, or_false] at hw
  rcases hw with rfl | rfl | rfl | rfl <;> cases hpage <;> exact fun _ => ⟨rfl, fun _ => rfl⟩

/-- R121: a defined first word begins the encoding of every instruction of its form. The cases are the opcodes; in each,
the half and the selector that give a form put the word together again. -/
theorem encodedFrom_of_decodeFirst {w : Word10} {form : Form} (hform : decodeFirst w = some form) :
    encodedFrom w form := by
  have hword := @eq_firstWord w
  simp only [decodeFirst] at hform
  generalize (w.extractLsb' 6 4).toNat = op at hform hword
  generalize w.getLsbD 5 = half at hform hword
  generalize selOf w = sel at hform hword
  split at hform
  case h_1 => -- NOP
    split at hform <;> cases hform
    next hw =>
      rw [eq_of_beq hw]
      exact fun _ => ⟨rfl, fun _ => rfl⟩
  case h_2 | h_5 | h_6 | h_7 | h_8 | h_9 => -- HALT, STTS and the jumps
    split at hform <;> cases hform <;> rw [hword nofun] <;> exact fun _ => ⟨rfl, fun _ => rfl⟩
  case h_3 => -- the one-word writes, OUT among them
    split at hform <;> cases hform <;> rw [hword nofun]
    case h_3.refl p => cases half <;> cases p <;> exact fun _ => ⟨rfl, fun _ => rfl⟩
    all_goals exact fun _ => ⟨rfl, fun _ => rfl⟩
  case h_4 => -- the loads from operand words and from the table, and CALL
    split at hform
    case h_7 n =>
      split at hform <;> cases hform
      next hn =>
        rw [hword nofun]
        exact fun _ => ⟨by simpa [Instr.wellFormed] using hn, fun _ => rfl⟩
    all_goals cases hform <;> rw [hword nofun]
    case h_2.refl p => cases p <;> exact fun _ => ⟨rfl, fun _ => rfl⟩
    case h_6.refl => exact encodedFrom_call
    all_goals exact fun _ => ⟨rfl, fun _ => rfl⟩
  case h_10 | h_11 | h_12 | h_13 => -- XRL, ANL, ORL and the reads into A
    split at hform <;> cases hform <;> rw [hword nofun]
    case h_6.refl p => cases half <;> cases p <;> exact fun _ => ⟨rfl, fun _ => rfl⟩
    all_goals exact fun _ => ⟨rfl, fun _ => rfl⟩
  case h_14 => cases hform

/-- R127: words that decode are the encoding of the instruction they decode to. The operand word read is the word
its value is packed into, so none of its bits is lost. -/
theorem encode_of_decode {lay : AddrLayout} {ws rest : List Word10} {i : Instr}
    (h : decode lay ws = .ok (i, rest)) : i.wellFormed = true ∧ ws = encode lay i ++ rest := by
  cases ws with
  | nil => cases h
  | cons w ws =>
    obtain ⟨form, vs, hform, rfl, hlen, hdec⟩ := decode_reads_form h
    have hfrom := encodedFrom_of_decodeFirst hform
    suffices henc : i.wellFormed = true ∧ encode lay i = w :: vs by simp [henc]
    cases form with
    | word1 j =>
      obtain rfl := List.eq_nil_of_length_eq_zero hlen
      rw [decode_word1 hform] at hdec
      cases hdec
      exact encode_of_encodesAs hfrom (x := ()) rfl
    | data4 mk =>
      obtain ⟨v, rfl⟩ := List.length_eq_one_iff.mp hlen
      simp only [decode, hform] at hdec
      split at hdec <;> cases hdec
      next hclear => exact encode_of_encodesAs hfrom (congrArg ([·]) (eq_cellWord (eq_of_beq hclear)).symm)
    | data8 mk =>
      obtain ⟨v, rfl⟩ := List.length_eq_one_iff.mp hlen
      simp only [decode, hform] at hdec
      split at hdec <;> cases hdec
      next hclear => exact encode_of_encodesAs hfrom (congrArg ([·]) (data8Word_data8Of v hclear))
    | data10 mk =>
      obtain ⟨v, rfl⟩ := List.length_eq_one_iff.mp hlen
      simp only [decode, hform] at hdec
      cases hdec
      exact encode_of_encodesAs hfrom (congrArg ([·]) (data10Word_data10Of v))
    | addr mk =>
      obtain ⟨v, rfl⟩ := List.length_eq_one_iff.mp hlen
      simp only [decode, hform] at hdec
      cases hdec
      exact encode_of_encodesAs hfrom (congrArg ([·]) (addrWord_addrOf lay v))
    | call =>
      obtain ⟨w1, w2, rfl⟩ := List.length_eq_two.mp hlen
      simp only [decode, hform] at hdec
      cases hpage : callPage w1 with
      | none => simp [hpage] at hdec
      | some mk =>
        simp only [hpage] at hdec
        cases hdec
        exact encode_of_encodesAs (hfrom w1 mk hpage) (congrArg ([w1, ·]) (addrWord_addrOf lay w2))

/-- Settles O1, by cases on the instruction (`decode_encode`). -/
theorem decodeOfEncode : Obligations.DecodeOfEncode := fun lay _ ws hi => decode_encode lay ws hi

/-- Settles O2, by cases on the form the first word names (`encode_of_decode`). -/
theorem encodeOfDecode : Obligations.EncodeOfDecode := fun _ _ _ _ h => encode_of_decode h

/-! ### The first words that are no instruction (R125) -/

/-- A selector that names nothing makes no first word (R114). -/
theorem decodeFirst_of_unused {w : Word10} (h : selOf w = .unused) : decodeFirst w = none := by
  have hw : w ≠ 0#10 := by
    rintro rfl
    cases h
  simp only [decodeFirst, h]
  split
  case h_1 => simp [hw]
  all_goals simp

/-- There is no port 2, 5 or 6 (R170). -/
theorem selOf_undefinedPort {w : Word10} (h : w.extractLsb' 0 5 ∈ [0b11010#5, 0b11101#5, 0b11110#5]) :
    selOf w = .unused := by
  revert w; decide +kernel

/-- No first word has opcode 1001, 1011 or 1100. -/
theorem decodeFirst_undefinedOpcode {w : Word10} (h : w.extractLsb' 6 4 ∈ [0b1001#4, 0b1011#4, 0b1100#4]) :
    decodeFirst w = none := by
  simp only [List.mem_cons, List.not_mem_nil, or_false] at h
  rcases h with h | h | h <;> simp [decodeFirst, h]

theorem decode_undefinedWord {lay : AddrLayout} {w : Word10} {ws : List Word10} (h : decodeFirst w = none) :
    decode lay (w :: ws) = .error .undefinedWord := by
  simp [decode, h]

/-- Settles O5: the named words are refused field by field, and the 310 are counted over all 1,024 words. -/
theorem undefinedWordsRefused : Obligations.UndefinedWordsRefused := by
  refine ⟨fun w => decodeFirst_undefinedOpcode, fun w h => decodeFirst_of_unused (selOf_undefinedPort h),
    fun n => ?sttsR1n, rfl, fun lay v ws h => decode_call_of_not_jump rfl (callPage_eq_none h),
    fun lay w ws => decode_undefinedWord, ?count⟩
  case sttsR1n => simp [decodeFirst]
  case count => decide +kernel

/-- Settles O3, by the rule of each word's form. -/
theorem printedWordsDecode : Obligations.PrintedWordsDecode :=
  ⟨fun _ _ => decode_word1 rfl, fun _ _ => decode_word1 rfl,
    fun _ _ => decode_data8 (mk := .movRnData8 3) rfl 0x5A,
    fun lay _ => by cases lay <;> exact decode_addr rfl 0x008,
    fun _ _ => decode_word1 rfl, fun _ _ => decode_data10 rfl 0x232, fun _ _ => decode_data4 rfl 5⟩

/-! ### The bits of the operand words (R115 to R118) -/

/-- R115: a word below 16 is a data4 word. -/
theorem eq_data4Word {w : Word10} (h : w.toNat < 16) : w = 0#6 ++ BitVec.ofNat 4 w.toNat := by
  revert w; decide +kernel

/-- R115, R126: a data4 word is read where it is below 16. -/
theorem decode_data4_eq {lay : AddrLayout} {w v : Word10} {ws : List Word10} {mk : Nibble → Instr}
    (h : decodeFirst w = some (.data4 mk)) : decode lay (w :: v :: ws) =
      if v.toNat < 16 then .ok (mk (BitVec.ofNat 4 v.toNat), ws) else .error .operandBits := by
  split
  next hv =>
    rw (occs := .pos [1]) [eq_data4Word hv]
    exact decode_data4 h _
  next hv => exact decode_data4_bits h (by omega)

theorem getLsbD_append_low {m n : Nat} (x : BitVec m) (y : BitVec n) {k : Nat} (h : k < n) :
    (x ++ y).getLsbD k = y.getLsbD k := by simp [BitVec.getLsbD_append, h]

theorem getLsbD_append_high {m n : Nat} (x : BitVec m) (y : BitVec n) (k : Nat) :
    (x ++ y).getLsbD (k + n) = x.getLsbD k := by simp [BitVec.getLsbD_append]

/-- The two bits of an operand word that stand outside its nibbles, w[9] and w[4]. -/
def outerBits (w : Word10) : BitVec 2 := w.extractLsb' 9 1 ++ w.extractLsb' 4 1

/-- R117: t1 and t0 are the outer bits, below the two nibbles. -/
theorem data10Of_eq (w : Word10) : data10Of w = data8Of w ++ outerBits w := rfl

/-- R118: in the split layout a9 and a8 are the outer bits, above the two nibbles. -/
theorem addrOf_split_eq (w : Word10) : addrOf .split w = outerBits w ++ data8Of w := rfl

theorem outerBits_bits (w : Word10) :
    (outerBits w).getLsbD 0 = w.getLsbD 4 ∧ (outerBits w).getLsbD 1 = w.getLsbD 9 :=
  ⟨(getLsbD_append_low _ _ (by decide)).trans (by simp), (getLsbD_append_high _ _ 0).trans (by simp)⟩

/-- R116: the nibbles of the value stand in w[3:0] and w[8:5]. -/
theorem data8Of_bits (w : Word10) {k : Nat} (hk : k < 4) :
    (data8Of w).getLsbD k = w.getLsbD k ∧ (data8Of w).getLsbD (k + 4) = w.getLsbD (k + 5) :=
  ⟨(getLsbD_append_low _ _ hk).trans (by simp [hk]),
    (getLsbD_append_high _ _ k).trans (by simp [hk, Nat.add_comm])⟩

/-- Settles O4: the three layouts are the same two nibbles and two outer bits in another order. -/
theorem operandWordLayouts : Obligations.OperandWordLayouts := by
  intro w d
  obtain ⟨hbit4, hbit9⟩ := outerBits_bits w
  refine ⟨fun lay ws => decode_data4_eq rfl, fun k hk => ?nibbles, ?_, ?_, ?_, ?_, rfl, data8Of_data8Word d⟩
  case nibbles =>
    obtain ⟨hlow, hhigh⟩ := data8Of_bits w hk
    rw [data10Of_eq, addrOf_split_eq]
    exact ⟨hlow, hhigh, (getLsbD_append_high _ _ k).trans hlow, (getLsbD_append_high _ _ (k + 4)).trans hhigh,
      (getLsbD_append_low _ _ (by omega)).trans hlow, (getLsbD_append_low _ _ (by omega)).trans hhigh⟩
  · exact (getLsbD_append_low _ _ (by decide)).trans hbit4
  · exact (getLsbD_append_low _ _ (by decide)).trans hbit9
  · exact (getLsbD_append_high _ _ 0).trans hbit4
  · exact (getLsbD_append_high _ _ 1).trans hbit9

/-! ### The assembler's 16-bit form (R111) -/

/-- R111: a word gives back itself through its 16-bit form. -/
theorem ofAsm16_asm16 (w : Word10) : ofAsm16 (asm16 w) = some w := by
  revert w; decide +kernel

/-- R111: the 16-bit form of the word of a 16-bit number is that number. -/
theorem asm16_of_ofAsm16 {h : BitVec 16} {w : Word10} (hw : ofAsm16 h = some w) : asm16 w = h := by
  unfold ofAsm16 at hw
  split at hw <;> cases hw
  next hones =>
    obtain ⟨htop, hmid⟩ : h.extractLsb' 13 3 = 0b111#3 ∧ h.extractLsb' 5 3 = 0b111#3 := by simpa using hones
    have hhigh : h.extractLsb' 13 3 ++ h.extractLsb' 8 5 = h.extractLsb' 8 8 :=
      BitVec.extractLsb'_append_extractLsb'_eq_extractLsb' rfl
    have hlow : h.extractLsb' 5 3 ++ h.extractLsb' 0 5 = h.extractLsb' 0 8 :=
      BitVec.extractLsb'_append_extractLsb'_eq_extractLsb' rfl
    calc asm16 (h.extractLsb' 8 5 ++ h.extractLsb' 0 5)
      _ = (0b111#3 ++ h.extractLsb' 8 5) ++ (0b111#3 ++ h.extractLsb' 0 5) := by
        rw [asm16, BitVec.extractLsb'_append_eq_left, BitVec.extractLsb'_append_eq_right]
      _ = h.extractLsb' 8 8 ++ h.extractLsb' 0 8 := by rw [← hhigh, ← hlow, htop, hmid]
      _ = h := (BitVec.extractLsb'_append_extractLsb'_eq_extractLsb' rfl).trans BitVec.extractLsb'_eq_self

/-- Settles O6: the fixed bits of a 16-bit form carry nothing, and the others are the word. -/
theorem assemblerForm : Obligations.AssemblerForm :=
  ⟨ofAsm16_asm16, fun _ _ => asm16_of_ofAsm16, by decide⟩

end Sys2Proof.Machine

/-! ## The accumulator instructions (R140 to R152) -/

namespace Sys2Proof.Machine

/-! ### First words that are the whole instruction (R112, R121) -/

/-- A word that is the encoding of a well-formed instruction under both layouts is decoded to it. -/
theorem oneWord_of_encode {w : Word10} {i : Instr} (hi : i.wellFormed = true) (hw : ∀ lay, encode lay i = [w]) :
    Sys2Proof.Claims.oneWord w i := by
  intro lay ws
  rw [← List.singleton_append, ← hw lay]
  exact decode_encode lay ws hi

/-! ### ANL, ORL, XRL (R141 to R149) -/

/-- Naming a cell writes the upper ASR bits at most (R26). -/
theorem touchRf_eq (n : Nibble) (s : State) : touchRf n s = { s with asrHigh := (touchRf n s).asrHigh } := by
  unfold touchRf
  split <;> rfl

/-- An instruction with a cell operand that puts `x` into A and `c` into CY, whatever naming the cell left of ASR. -/
theorem cellToA_of_withCell {i : Instr} {n x : Nibble} {c : Bool} {s : State} (f : State → State)
    (hcell : cellRefused n s = false) (hexec : exec i s = withCell n s fun t => .next (retire 1 (f t)))
    (hf : ∀ high, f { s with asrHigh := high } = { s with asrHigh := high, a := x, cy := c }) :
    Sys2Proof.Claims.cellToA i n s x c := by
  have hstate : f (touchRf n s) = { s with asrHigh := (touchRf n s).asrHigh, a := x, cy := c } := by
    rw [touchRf_eq, hf]
  refine ⟨retire 1 (f (touchRf n s)), ?next, ?frame, fun hn => ?asr⟩
  case next => rw [hexec, withCell_of_not_refused hcell]
  case frame => rw [hstate]; rfl
  case asr => rw [hstate, touchRf_of_ne s hn]; rfl

/-- An instruction with a table operand that updates A and CY with a nibble of the table word, where the read is made
(R87, R88). -/
theorem exec_of_withTable {i : Instr} {s : State} (f : Nibble → State → State) (nibble : Word10 → Nibble)
    (hread : Sys2Proof.Claims.tableReadable s)
    (hexec : exec i s = withTable s fun d => .next (retire 1 (f (nibble d) s))) :
    exec i s = .next (retire 1 (f (nibble (tableWord s)) s)) := by
  obtain ⟨hpaged, hmounted⟩ := hread
  rw [hexec, withTable_of_mounted hpaged hmounted]

/-- Settles O11: the six meanings are one cell access each, with the three updates of A and CY. -/
theorem logicWithCell : Obligations.LogicWithCell := by
  intro n
  refine ⟨oneWord_of_encode rfl fun _ => rfl, oneWord_of_encode rfl fun _ => rfl, oneWord_of_encode rfl fun _ => rfl,
    oneWord_of_encode rfl fun _ => rfl, oneWord_of_encode rfl fun _ => rfl, oneWord_of_encode rfl fun _ => rfl,
    by simp [cyclesOf], fun s hcell => ⟨?anlR0, ?anlR1, ?orlR0, ?orlR1, ?xrlR0, ?xrlR1⟩⟩
  case anlR0 => exact cellToA_of_withCell (andA (readCell 0 n s)) hcell rfl fun _ => rfl
  case anlR1 => exact cellToA_of_withCell (andA (readCell 1 n s)) hcell rfl fun _ => rfl
  case orlR0 => exact cellToA_of_withCell (orA (readCell 0 n s)) hcell rfl fun _ => rfl
  case orlR1 => exact cellToA_of_withCell (orA (readCell 1 n s)) hcell rfl fun _ => rfl
  case xrlR0 => exact cellToA_of_withCell (xorA (readCell 0 n s)) hcell rfl fun _ => rfl
  case xrlR1 => exact cellToA_of_withCell (xorA (readCell 1 n s)) hcell rfl fun _ => rfl

/-- Settles O12: where the table read is made, each meaning runs on the table word. -/
theorem logicWithTable : Obligations.LogicWithTable := by
  refine ⟨oneWord_of_encode rfl fun _ => rfl, oneWord_of_encode rfl fun _ => rfl, oneWord_of_encode rfl fun _ => rfl,
    oneWord_of_encode rfl fun _ => rfl, oneWord_of_encode rfl fun _ => rfl, oneWord_of_encode rfl fun _ => rfl,
    by simp [cyclesOf], ?_⟩
  rintro s hread _ _ rfl rfl
  refine ⟨?anlHigh, ?anlLow, ?orlHigh, ?orlLow, ?xrlHigh, ?xrlLow⟩
  case anlHigh => exact exec_of_withTable andA tableHigh hread rfl
  case anlLow => exact exec_of_withTable andA tableLow hread rfl
  case orlHigh => exact exec_of_withTable orA tableHigh hread rfl
  case orlLow => exact exec_of_withTable orA tableLow hread rfl
  case xrlHigh => exact exec_of_withTable xorA tableHigh hread rfl
  case xrlLow => exact exec_of_withTable xorA tableLow hread rfl

/-- Settles O13: the data word is read back as the operand, and the meanings are the updates of A and CY themselves. -/
theorem logicWithImmediate : Obligations.LogicWithImmediate := fun d _ =>
  ⟨fun _ _ => decode_data4 rfl d, fun _ _ => decode_data4 rfl d, fun _ _ => decode_data4 rfl d,
    by simp [cyclesOf], rfl, rfl, rfl⟩

/-! ### INC, RL, RLZ (R150 to R152) -/

/-- R150: 4-bit addition is addition modulo 16. -/
theorem nibble_add_one_eq (a : Nibble) : a + 1 = BitVec.ofNat 4 ((a.toNat + 1) % 16) :=
  BitVec.eq_of_toNat_eq (by simp)

theorem cyAllOnes_eq (a : Nibble) : cyAllOnes a = decide (a = 0xF) := beq_eq_decide a 0xF

/-- R151: the model's rotate is the library's, by one. -/
theorem rotateLeft_eq (a : Nibble) : rotateLeft a = a.rotateLeft 1 := by
  revert a; decide

/-- RL, and RLZ with A not 0, as the state after the instruction (R151, R152). -/
theorem retire_rotateA (s : State) :
    retire 1 (rotateA s) = { s with a := s.a.rotateLeft 1, cy := s.a.getLsbD 3, pc := s.nextPc 1 } := by
  rw [← rotateLeft_eq]
  rfl

theorem execRlzA_of_zero {s : State} (h : s.a = 0) : execRlzA s = .next (internalReset .rlzZero s) := if_pos h

theorem execRlzA_of_ne {s : State} (h : s.a ≠ 0) : execRlzA s = .next (retire 1 (rotateA s)) := if_neg h

end Sys2Proof.Machine

/-! The three statements stand in `Sys2Proof.Laws`: in `Sys2Proof.Machine`, `incrementA` and `rotateA` are the model's
updates of the state. -/

namespace Sys2Proof.Laws

open Sys2Proof.Machine

/-- Settles O14: A + 1 in four bits is the sum modulo 16. -/
theorem incrementA : Obligations.IncrementA := by
  refine ⟨oneWord_of_encode rfl fun _ => rfl, rfl, fun s => ?_⟩
  rw [← nibble_add_one_eq, ← cyAllOnes_eq]
  rfl

/-- Settles O15: the meaning is the rotate and `next` (`retire_rotateA`). -/
theorem rotateA : Obligations.RotateA :=
  ⟨oneWord_of_encode rfl fun _ => rfl, rfl, fun s => congrArg _ (retire_rotateA s)⟩

/-- Settles O16, by whether A is 0. -/
theorem rotateOrResetA : Obligations.RotateOrResetA := by
  refine ⟨oneWord_of_encode rfl fun _ => rfl, rfl, fun s => ⟨fun hzero => ⟨?reset, rfl⟩, fun hne => ?rotate⟩⟩
  case reset => exact execRlzA_of_zero hzero
  case rotate => exact (execRlzA_of_ne hne).trans (congrArg _ (retire_rotateA s))

end Sys2Proof.Laws

/-! ## The I/O instructions (R54, R65, R170 to R176) -/

namespace Sys2Proof.Machine

/-! ### One nibble of a port register (R65) -/

/-- The named nibble takes the value, the other one stays: `m` is 0 for the lower nibble. -/
theorem getLsbD_setNibble (m : BitVec 1) (v : Nibble) (b : Octet) {k : Nat} (hk : k < 8) :
    (setNibble m v b).getLsbD k = if decide (k < 4) = decide (m = 0) then v.getLsbD (k % 4) else b.getLsbD k := by
  unfold setNibble
  rcases Nat.lt_or_ge k 4 with hlow | hhigh
  case inl =>
    rw [apply_ite (BitVec.getLsbD · k), getLsbD_append_low _ _ hlow, getLsbD_append_low _ _ hlow]
    by_cases hm : m = 0#1
    · simp [hm, hlow, Nat.mod_eq_of_lt hlow]
    · simp [hm, hlow]
  case inr =>
    obtain ⟨j, rfl⟩ := Nat.exists_eq_add_of_le' hhigh
    have hj : j < 4 := by omega
    rw [apply_ite (BitVec.getLsbD · (j + 4)), getLsbD_append_high, getLsbD_append_high]
    by_cases hm : m = 0#1
    · simp [hm, hj, Nat.add_comm]
    · simp [hm, Nat.mod_eq_of_lt hj]

/-- A nibble write through a mask, bit by bit. -/
theorem nibbleWritten_setNibble (lower : Bool) (v : Nibble) (writable old : Octet) :
    Sys2Proof.Claims.nibbleWritten lower v writable old
      (setNibble (if lower then 0 else 1) v old &&& writable) := by
  intro k hk
  have hhalf : decide ((if lower then 0 else 1 : BitVec 1) = 0) = lower := by cases lower <;> rfl
  rw [BitVec.getLsbD_and, getLsbD_setNibble _ _ _ hk, hhalf, Bool.and_comm]

/-- Masking the old value before a masked nibble write adds nothing (R59, R63). -/
theorem setNibble_and_mask (m : BitVec 1) (v : Nibble) (b mask : Octet) :
    setNibble m v (b &&& mask) &&& mask = setNibble m v b &&& mask := by
  refine BitVec.eq_of_getLsbD_eq fun k hk => ?_
  simp only [BitVec.getLsbD_and, getLsbD_setNibble _ _ _ hk]
  split
  · rfl
  · rw [Bool.and_assoc, Bool.and_self]

/-- Both nibbles written leave nothing of the old value (R176). -/
theorem setNibble_both (v b : Octet) : setNibble 0 (v.extractLsb' 0 4) (setNibble 1 (v.extractLsb' 4 4) b) = v := by
  refine BitVec.eq_of_getLsbD_eq fun k hk => ?_
  rw [getLsbD_setNibble _ _ _ hk, getLsbD_setNibble _ _ _ hk]
  by_cases hlow : k < 4
  case pos => simp [hlow, Nat.mod_eq_of_lt hlow]
  case neg =>
    have hhigh : 4 + k % 4 = k := by omega
    simp [hlow, Nat.mod_lt, hhigh]

/-! ### Writing a port register (R54, R65) -/

/-- The writable bits of P3 in the statements' words: bits 1 and 0 on the µPD69 only (R59). -/
theorem p3Mask_eq (p : Part) : p3Mask p = if p = .upd69 then 0xFB else 0xF8 := by
  cases p <;> rfl

theorem portWrite_p0Latch (m : BitVec 1) (p : Port) (v : Nibble) (s : State) :
    (portWrite m p v s).p0Latch = if p = .p0 then setNibble m v s.p0Latch else s.p0Latch := by
  cases p <;> rfl

theorem portWrite_p3 (m : BitVec 1) (p : Port) (v : Nibble) (s : State) :
    (portWrite m p v s).p3 = if p = .p3 then setNibble m v s.p3 &&& p3Mask s.params.part else s.p3 := by
  cases p <;> rfl

theorem portWrite_p4 (m : BitVec 1) (p : Port) (v : Nibble) (s : State) :
    (portWrite m p v s).p4 = if p = .p4 then setNibble m v s.p4 &&& p4Mask else s.p4 := by
  cases p <;> rfl

/-- An instruction that writes a port nibble changes the three port storages and PC at most. -/
theorem retire_portWrite_frame (k : Nat) (m : BitVec 1) (p : Port) (v : Nibble) (s : State) :
    let t := retire k (portWrite m p v s)
    t = { s with p0Latch := t.p0Latch, p3 := t.p3, p4 := t.p4, pc := s.nextPc k } := by
  cases p <;> rfl

/-- What both nibbles of a port written at once come to (R176). -/
theorem portWritePair_p0 (d : Octet) (s : State) : portWritePair .p0 d s = { s with p0Latch := d } :=
  congrArg (fun b => { s with p0Latch := b }) (setNibble_both d s.p0Latch)

/-- P1 takes no write (R54). -/
theorem portWritePair_p1 (d : Octet) (s : State) : portWritePair .p1 d s = s := rfl

theorem portWritePair_p3 (d : Octet) (s : State) :
    portWritePair .p3 d s = { s with p3 := d &&& p3Mask s.params.part } := by
  refine congrArg (fun b => { s with p3 := b }) ((setNibble_and_mask 0 _ _ _).trans ?_)
  rw [setNibble_both]

theorem portWritePair_p4 (d : Octet) (s : State) : portWritePair .p4 d s = { s with p4 := d &&& p4Mask } := by
  refine congrArg (fun b => { s with p4 := b }) ((setNibble_and_mask 0 _ _ _).trans ?_)
  rw [setNibble_both]

/-! ### The instructions of a port nibble (R170 to R175) -/

/-- The first words `op h 11 ppp` of the four families whose statements name the port and the half (R113, R170). -/
theorem decodeFirst_portWord (lower : Bool) (p : Port) :
    decodeFirst (Sys2Proof.Claims.portWord 0b0010 lower p) = some (.word1 (outInstr lower p)) ∧
    decodeFirst (Sys2Proof.Claims.portWord 0b1101 lower p) = some (.word1 (anlPortInstr lower p)) ∧
    decodeFirst (Sys2Proof.Claims.portWord 0b1110 lower p) = some (.word1 (orlPortInstr lower p)) ∧
    decodeFirst (Sys2Proof.Claims.portWord 0b1010 lower p) = some (.word1 (xrlPortInstr lower p)) := by
  cases lower <;> cases p <;> exact ⟨rfl, rfl, rfl, rfl⟩

theorem exec_outInstr (lower : Bool) (p : Port) (s : State) :
    exec (outInstr lower p) s = .next (retire 1 (portWrite (if lower then 0 else 1) p s.a s)) := by
  cases lower <;> cases p <;> rfl

theorem exec_outData8Instr (p : Port) (d : Octet) (s : State) :
    exec (outData8Instr p d) s = .next (retire 2 (portWritePair p d s)) := by
  cases p <;> rfl

/-- ANL, ORL and XRL with a port nibble are the updates of A and CY with the nibble read (R173 to R175). -/
theorem exec_logicPortInstr (lower : Bool) (p : Port) (s : State) :
    let x := portRead (if lower then 0 else 1) p s
    exec (anlPortInstr lower p) s = .next (retire 1 (andA x s)) ∧
    exec (orlPortInstr lower p) s = .next (retire 1 (orA x s)) ∧
    exec (xrlPortInstr lower p) s = .next (retire 1 (xorA x s)) := by
  cases lower <;> cases p <;> exact ⟨rfl, rfl, rfl⟩

/-- One word, one machine cycle (R112). -/
theorem cyclesOf_portInstr (lower : Bool) (p : Port) :
    cyclesOf (outInstr lower p) = 1 ∧ cyclesOf (anlPortInstr lower p) = 1 ∧
    cyclesOf (orlPortInstr lower p) = 1 ∧ cyclesOf (xrlPortInstr lower p) = 1 := by
  cases lower <;> cases p <;> exact ⟨rfl, rfl, rfl, rfl⟩

/-- Settles O18: each printed word is the whole instruction, and each meaning is `loadA` of the nibble named. -/
theorem inPort : Obligations.InPort := by
  refine ⟨fun _ _ => decode_word1 rfl, fun _ _ => decode_word1 rfl, fun _ _ => decode_word1 rfl,
    fun _ _ => decode_word1 rfl, fun _ _ => decode_word1 rfl, fun _ _ => decode_word1 rfl,
    fun _ _ => decode_word1 rfl, fun _ _ => decode_word1 rfl, fun s x hx => ?_⟩
  simp only [List.mem_cons, List.not_mem_nil, or_false] at hx
  rcases hx with rfl | rfl | rfl | rfl | rfl | rfl | rfl | rfl <;> exact ⟨rfl, rfl⟩

/-- Settles O19: the state after the nibble write, its frame, and each storage by whether the port names it. -/
theorem outPort : Obligations.OutPort := by
  intro s lower p
  obtain ⟨hword, -, -, -⟩ := decodeFirst_portWord lower p
  obtain ⟨hcycles, -, -, -⟩ := cyclesOf_portInstr lower p
  refine ⟨_, fun _ _ => decode_word1 hword, hcycles, exec_outInstr lower p s, retire_portWrite_frame _ _ _ _ _,
    fun hp => ?p0, fun hp => ?p3, fun hp => ?p4, fun hp => ?p0Kept, fun hp => ?p3Kept, fun hp => ?p4Kept⟩
  case p0 =>
    rw [retire_p0Latch, portWrite_p0Latch, if_pos hp, ← BitVec.and_allOnes (x := setNibble _ _ _)]
    exact nibbleWritten_setNibble lower s.a _ s.p0Latch
  case p3 =>
    rw [retire_p3, portWrite_p3, if_pos hp, p3Mask_eq]
    exact nibbleWritten_setNibble lower s.a _ s.p3
  case p4 =>
    rw [retire_p4, portWrite_p4, if_pos hp]
    exact nibbleWritten_setNibble lower s.a _ s.p4
  case p0Kept => exact (portWrite_p0Latch _ p s.a s).trans (if_neg hp)
  case p3Kept => exact (portWrite_p3 _ p s.a s).trans (if_neg hp)
  case p4Kept => exact (portWrite_p4 _ p s.a s).trans (if_neg hp)

/-- Settles O20: the words, the cycles and the meanings by port and half. -/
theorem logicWithPort : Obligations.LogicWithPort := by
  rintro s lower p _ rfl
  obtain ⟨-, hanl, horl, hxrl⟩ := decodeFirst_portWord lower p
  obtain ⟨-, hanlCycles, horlCycles, hxrlCycles⟩ := cyclesOf_portInstr lower p
  exact ⟨fun _ _ => decode_word1 hanl, fun _ _ => decode_word1 horl, fun _ _ => decode_word1 hxrl,
    hanlCycles, horlCycles, hxrlCycles, exec_logicPortInstr lower p s⟩

/-- Settles O21: the data8 word is read back as the operand, and each meaning writes both nibbles. -/
theorem outPortImmediate : Obligations.OutPortImmediate := by
  intro s d
  refine ⟨fun _ _ => decode_data8 rfl d, fun _ _ => decode_data8 rfl d, fun _ _ => decode_data8 rfl d,
    fun _ _ => decode_data8 rfl d, by simp [cyclesOf], ?p0, ?p1, ?p3, ?p4⟩
  case p0 => exact (exec_outData8Instr .p0 d s).trans (by rw [portWritePair_p0]; rfl)
  case p1 => exact (exec_outData8Instr .p1 d s).trans (by rw [portWritePair_p1]; rfl)
  case p3 => exact (exec_outData8Instr .p3 d s).trans (by rw [portWritePair_p3, p3Mask_eq]; rfl)
  case p4 => exact (exec_outData8Instr .p4 d s).trans (by rw [portWritePair_p4]; rfl)

end Sys2Proof.Machine

/-! ## The data transfer instructions (R190 to R197) -/

namespace Sys2Proof.Machine

/-! ### MOV A (R191 to R194) -/

/-- Settles O22: the two cell meanings, the two table meanings and the immediate one are each `loadA` of the operand. -/
theorem moveToA : Obligations.MoveToA := by
  intro s n d
  refine ⟨oneWord_of_encode rfl fun _ => rfl, oneWord_of_encode rfl fun _ => rfl, oneWord_of_encode rfl fun _ => rfl,
    oneWord_of_encode rfl fun _ => rfl, fun _ _ => decode_data4 rfl d, by simp [cyclesOf],
    fun hcell => ⟨?cellR0, ?cellR1⟩, fun hread => ⟨?tableHigh, ?tableLow⟩, rfl⟩
  case cellR0 => exact cellToA_of_withCell (loadA (readCell 0 n s)) hcell rfl fun _ => rfl
  case cellR1 => exact cellToA_of_withCell (loadA (readCell 1 n s)) hcell rfl fun _ => rfl
  case tableHigh => exact exec_of_withTable loadA tableHigh hread rfl
  case tableLow => exact exec_of_withTable loadA tableLow hread rfl

/-! ### Stores to data memory (R195 to R197) -/

@[simp] theorem readCell_retire (m : BitVec 1) (n : Nibble) (k : Nat) (s : State) :
    readCell m n (retire k s) = readCell m n s := rfl

/-- Writing a cell leaves every other cell alone (R195). -/
theorem readRam_writeCell_of_ne {m : BitVec 1} {n v : Nibble} {s : State} {c : Nat}
    (h : c ≠ ramAddr (ramPage s) m n) : (writeCell m n v s).mem.readRam c = s.mem.readRam c := by
  rw [writeCell_mem, readRam_writeRam, if_neg h.symm]

/-- Writing a pair leaves every cell alone but the two of the pair (R28). -/
theorem readRam_writePair_of_ne {n : Nibble} {v : Octet} {s : State} {c : Nat}
    (h0 : c ≠ ramAddr (ramPage s) 0 n) (h1 : c ≠ ramAddr (ramPage s) 1 n) :
    (writePair n v s).mem.readRam c = s.mem.readRam c := by
  rw [writePair, readRam_writeCell_of_ne (by rwa [ramPage_writeCell]), readRam_writeCell_of_ne h1]

/-- An instruction that names a register and writes data memory changes, beside memory, PC and the upper ASR bits at
most, these only by naming RF (R26). -/
theorem retire_store_frame (k : Nat) (n : Nibble) (mem : Memory) (s : State) :
    let t := retire k { touchRf n s with mem := mem }
    t = { s with mem := t.mem, asrHigh := t.asrHigh, pc := s.nextPc k } ∧ (n ≠ 15 → t.asrHigh = s.asrHigh) := by
  refine ⟨?frame, fun hn => ?asr⟩
  case frame => rw [touchRf_eq]; rfl
  case asr => rw [touchRf_of_ne s hn]; rfl

/-- An instruction with a register operand, where R92 does not refuse the cell. -/
theorem exec_of_withCell {i : Instr} {n : Nibble} {k : Nat} {s : State} (f : State → State)
    (hcell : cellRefused n s = false) (hexec : exec i s = withCell n s fun t => .next (retire k (f t))) :
    exec i s = .next (retire k (f (touchRf n s))) :=
  hexec.trans (withCell_of_not_refused hcell)

/-- `MOV R0n,A` (m = 0) or `MOV R1n,A` (m = 1). -/
def storeAInstr (m : BitVec 1) (n : Nibble) : Instr := if m = 0 then .movR0nA n else .movR1nA n

theorem oneWord_storeAInstr (m : BitVec 1) (n : Nibble) :
    Sys2Proof.Claims.oneWord (0b0010#4 ++ (~~~m ++ (0#1 ++ n))) (storeAInstr m n) := by
  have hencode : ∀ m n, encode .split (storeAInstr m n) = [0b0010#4 ++ (~~~m ++ (0#1 ++ n))] := by decide
  obtain rfl | rfl : m = 0 ∨ m = 1 := by revert m; decide
  · exact oneWord_of_encode rfl fun _ => hencode 0 n
  · exact oneWord_of_encode rfl fun _ => hencode 1 n

theorem exec_storeAInstr {m : BitVec 1} {n : Nibble} {s : State} (hcell : cellRefused n s = false) :
    exec (storeAInstr m n) s = .next (retire 1 (writeCell m n s.a (touchRf n s))) := by
  rw [← touchRf_a n s]
  obtain rfl | rfl : m = 0 ∨ m = 1 := by revert m; decide
  · exact exec_of_withCell (fun t => writeCell 0 n t.a t) hcell rfl
  · exact exec_of_withCell (fun t => writeCell 1 n t.a t) hcell rfl

/-- Settles O23: the meaning is `writeCell` of A to the named cell. -/
theorem storeA : Obligations.StoreA := by
  intro s n m i hi hcell
  obtain rfl : i = storeAInstr m n := by
    rcases hi with ⟨rfl, rfl⟩ | ⟨rfl, rfl⟩ <;> rfl
  obtain ⟨hframe, hasr⟩ := retire_store_frame 1 n (writeCell m n s.a (touchRf n s)).mem s
  refine ⟨oneWord_storeAInstr m n, ?cycles, _, exec_storeAInstr hcell, hframe, hasr, ?cell, fun c hc => ?others,
    fun _ => ?rom⟩
  case cycles => unfold storeAInstr; split <;> rfl
  case cell => rw [readCell_retire, readCell_writeCell, if_pos ⟨rfl, rfl⟩]
  case others =>
    rw [retire_mem, readRam_writeCell_of_ne (by rwa [ramPage_touchRf]), touchRf_mem]
  case rom => rw [retire_mem, writeCell_mem, readRom_writeRam, touchRf_mem]

/-- What the two stores to a pair have in common: after `k` words the pair reads `v`, and nothing else has changed but
PC and, where RF is named, the upper ASR bits (R26, R196, R197). -/
structure StoresPair (n : Nibble) (v : Octet) (k : Nat) (s t : State) : Prop where
  frame : t = { s with mem := t.mem, asrHigh := t.asrHigh, pc := s.nextPc k }
  asr : n ≠ 15 → t.asrHigh = s.asrHigh
  high : readCell 1 n t = v.extractLsb' 4 4
  low : readCell 0 n t = v.extractLsb' 0 4
  others : ∀ c, c ≠ ramAddr (ramPage s) 0 n → c ≠ ramAddr (ramPage s) 1 n → t.mem.readRam c = s.mem.readRam c
  rom : ∀ c, t.mem.readRom c = s.mem.readRom c

theorem storesPair_writePair (n : Nibble) (v : Octet) (k : Nat) (s : State) :
    StoresPair n v k s (retire k (writePair n v (touchRf n s))) := by
  obtain ⟨hframe, hasr⟩ := retire_store_frame k n (writePair n v (touchRf n s)).mem s
  refine ⟨hframe, hasr, ?high, ?low, fun c h0 h1 => ?others, fun _ => ?rom⟩
  case high => rw [readCell_retire, readCell_writePair, if_pos rfl, if_neg (by decide)]
  case low => rw [readCell_retire, readCell_writePair, if_pos rfl, if_pos rfl]
  case others =>
    rw [retire_mem, readRam_writePair_of_ne (by rwa [ramPage_touchRf]) (by rwa [ramPage_touchRf]), touchRf_mem]
  case rom => rw [retire_mem, writePair_mem, readRom_writeRam, readRom_writeRam, touchRf_mem]

/-- Settles O24: the data8 word is read back as the operand, and the meaning writes it to the pair. -/
theorem storeImmediatePair : Obligations.StoreImmediatePair := by
  intro s n d hcell
  have hstore := storesPair_writePair n d 2 s
  refine ⟨?words, rfl, _, exec_of_withCell (writePair n d) hcell rfl, hstore.frame, hstore.asr, ?pair, hstore.others,
    hstore.rom⟩
  case words => exact fun lay ws => decode_encode lay (i := .movRnData8 n d) ws rfl
  case pair =>
    rw [hstore.high, hstore.low]
    exact (BitVec.extractLsb'_append_extractLsb'_eq_extractLsb' rfl).trans BitVec.extractLsb'_eq_self

/-- R88: the data of a table word is its bits 8 to 5, then its bits 3 to 0. -/
theorem data8Of_high (w : Word10) : (data8Of w).extractLsb' 4 4 = w.extractLsb' 5 4 :=
  BitVec.extractLsb'_append_eq_left

theorem data8Of_low (w : Word10) : (data8Of w).extractLsb' 0 4 = w.extractLsb' 0 4 :=
  BitVec.extractLsb'_append_eq_right

/-- Where the table read is made, R92 refuses no cell either. -/
theorem cellRefused_of_not_pagedRefused {s : State} (n : Nibble) (h : pagedRefused s = false) :
    cellRefused n s = false := by
  rw [cellRefused, h, Bool.false_and]

/-- Settles O25: the table word is read at the DP of the state before, then written to the pair as its data8 value. -/
theorem storeTablePair : Obligations.StoreTablePair := by
  rintro s n hn ⟨hpaged, hmounted⟩
  have hwell : (Instr.movRnTab n).wellFormed = true := by simpa [Instr.wellFormed] using hn
  have hread : exec (.movRnTab n) s =
      withCell n s fun t => .next (retire 1 (writePair n (data8Of (tableWord s)) t)) :=
    (execMovRnTab_of_ne hn).trans (withTable_of_mounted hpaged hmounted)
  have hexec := exec_of_withCell (writePair n (data8Of (tableWord s))) (cellRefused_of_not_pagedRefused n hpaged) hread
  have hstore := storesPair_writePair n (data8Of (tableWord s)) 1 s
  exact ⟨oneWord_of_encode hwell fun _ => rfl, rfl, _, hexec, hstore.frame, hstore.asr,
    hstore.high.trans (data8Of_high _), hstore.low.trans (data8Of_low _), hstore.others, hstore.rom⟩

end Sys2Proof.Machine

/-! ## The jumps (R119, R210 to R217) -/

namespace Sys2Proof.Machine

section
variable {s : State} {page : BitVec 2} {addr : Word10}

/-- On the 11-bit parts a page the part has is 0 or 1, so that cutting to 11 bits keeps it (R211). -/
theorem jumpTarget_of_hasPage {p : Part} (h : hasPage p page = true) : jumpTarget p page addr = page ++ addr := by
  unfold jumpTarget truncAddr
  split
  · rfl
  next hbits =>
    have hpage : page &&& 1 = page := by
      have hlow : page = 0 ∨ page = 1 := by cases p <;> simp_all [pcBits, hasPage]
      rcases hlow with rfl | rfl <;> rfl
    calc (page ++ addr) &&& 0x7FF
        = (page ++ addr) &&& ((1 : BitVec 2) ++ BitVec.allOnes 10) := rfl
      _ = (page &&& 1) ++ (addr &&& BitVec.allOnes 10) := BitVec.and_append
      _ = page ++ addr := by rw [hpage, BitVec.and_allOnes]

theorem jumpIf_of_hasPage (taken : Bool) (h : hasPage s.params.part page = true) :
    jumpIf taken page addr s = .next { s with pc := if taken then page ++ addr else s.nextPc 2 } := by
  rw [jumpIf, if_pos h, jumpTarget_of_hasPage h]

/-- A jump on a flag that is clear: JNC and JNF. -/
theorem jumpIf_not_of_hasPage (flag : Bool) (h : hasPage s.params.part page = true) :
    jumpIf (!flag) page addr s = .next { s with pc := if flag then s.nextPc 2 else page ++ addr } := by
  rw [jumpIf_of_hasPage _ h]
  cases flag <;> rfl

theorem jumpIf_refused (taken : Bool) (h : hasPage s.params.part page = false) :
    jumpIf taken page addr s = .refused .pageNotOnPart := by
  rw [jumpIf, h, if_neg Bool.false_ne_true]

end

/-- A first word of the addr form and its addr word are the jump the decoder table names for it (R118, R119). -/
theorem jumpWords_of_decodeFirst {w : Word10} {mk : Word10 → Instr} (h : decodeFirst w = some (.addr mk)) :
    Sys2Proof.Claims.jumpWords w mk := fun _ addr _ => decode_addr h addr

/-- Settles O28: the twenty first words by the decoder's table, the pages by part, and each meaning as `jumpIf` of its
condition. -/
theorem jumps : Obligations.Jumps := by
  unfold Obligations.Jumps
  iterate 20 refine ⟨jumpWords_of_decodeFirst rfl, ?_⟩
  refine ⟨fun page => ?pages, fun s addr x hx => ?meanings⟩
  case pages => simp [hasPage]
  case meanings =>
    simp only [List.mem_cons, List.not_mem_nil, or_false] at hx
    rcases hx with rfl | rfl | rfl | rfl
    all_goals
      refine ⟨by simp [cyclesOf], fun hpage => ⟨jumpIf_of_hasPage true hpage, jumpIf_of_hasPage s.cy hpage,
        jumpIf_not_of_hasPage s.cy hpage, jumpIf_of_hasPage s.f hpage, jumpIf_not_of_hasPage s.f hpage⟩,
        fun hpage => ?_⟩
      simp only [List.forall_mem_cons]
      exact ⟨jumpIf_refused true hpage, jumpIf_refused s.cy hpage, jumpIf_refused (!s.cy) hpage,
        jumpIf_refused s.f hpage, jumpIf_refused (!s.f) hpage, List.forall_mem_nil _⟩

end Sys2Proof.Machine

/-! ## CALL and RET (R230 to R233) -/

namespace Sys2Proof.Machine

/-! ### ASR (R24, R25) -/

/-- The upper ASR bits of an address cut to `PC_BITS` bits are all kept (R25). -/
theorem truncAsrHigh_of_truncAddr {p : Part} {v : Addr} (h : truncAddr p v = v) :
    truncAsrHigh p (v.extractLsb' 8 4) = v.extractLsb' 8 4 := by
  unfold truncAddr at h
  unfold truncAsrHigh
  split at h
  next hbits => exact if_pos hbits
  next hbits =>
    rw [if_neg hbits]
    calc v.extractLsb' 8 4 &&& 0x7
        = (v &&& 0x7FF).extractLsb' 8 4 := by rw [BitVec.extractLsb'_and]; rfl
      _ = v.extractLsb' 8 4 := by rw [h]

/-- ASR holds every bit of an address it is written with (R24, R25). -/
theorem asrValue_writeAsr_of_truncAddr {v : Addr} {s : State} (h : truncAddr s.params.part v = v) :
    asrValue (writeAsr v s) = v := by
  have hlow : v.extractLsb' 4 4 ++ v.extractLsb' 0 4 = v.extractLsb' 0 8 :=
    BitVec.extractLsb'_append_extractLsb'_eq_extractLsb' rfl
  rw [asrValue_writeAsr, truncAsrHigh_of_truncAddr h, hlow]
  exact (BitVec.extractLsb'_append_extractLsb'_eq_extractLsb' rfl).trans BitVec.extractLsb'_eq_self

/-- Writing ASR leaves every cell but R0F and R1F alone (R25). -/
theorem readRam_writeAsr_of_ne {v : Addr} {s : State} {c : Nat} (h0 : c ≠ ramAddr (r0RfPage s) 0 15)
    (h1 : c ≠ ramAddr (r0RfPage s) 1 15) : (writeAsr v s).mem.readRam c = s.mem.readRam c := by
  rw [writeAsr, readRam_writeRam, if_neg h0.symm, readRam_writeRam, if_neg h1.symm]

/-- Writing ASR leaves program memory alone (R85). -/
theorem readRom_writeAsr (v : Addr) (s : State) (c : Nat) : (writeAsr v s).mem.readRom c = s.mem.readRom c := by
  rw [writeAsr, readRom_writeRam, readRom_writeRam]

/-- ASR is its upper bits and the two cells of RF: states that agree on these hold the same ASR (R24). -/
theorem asrValue_congr {t u : State} (hhigh : u.asrHigh = t.asrHigh) (hpage : r0RfPage u = r0RfPage t)
    (hrf : ∀ m, u.mem.readRam (ramAddr (r0RfPage t) m 15) = t.mem.readRam (ramAddr (r0RfPage t) m 15)) :
    asrValue u = asrValue t := by
  rw [asrValue, hhigh, hpage, hrf 0, hrf 1, ← asrValue]

/-! ### CALL (R231) -/

/-- Two machine cycles and three words, whatever the page (R112). -/
theorem size_callInstr (page : BitVec 2) (addr : Word10) :
    cyclesOf (Sys2Proof.Claims.callInstr page addr) = 2 ∧ instrWords (Sys2Proof.Claims.callInstr page addr) = 3 := by
  unfold Sys2Proof.Claims.callInstr
  split_ifs <;> exact ⟨rfl, rfl⟩

/-- The state after a CALL that completes. -/
def afterCall (page : BitVec 2) (addr : Word10) (s : State) : State :=
  { writeAsr (s.nextPc 3) s with sp := 1, pc := page ++ addr }

/-- CALL saves the address after its three words. -/
theorem asrValue_afterCall (page : BitVec 2) (addr : Word10) (s : State) :
    asrValue (afterCall page addr s) = s.nextPc 3 :=
  asrValue_writeAsr_of_truncAddr (truncAddr_nextPc s 3)

theorem callTo_of_not_hasPage {page : BitVec 2} {addr : Word10} {s : State} (h : hasPage s.params.part page = false) :
    callTo page addr s = .refused .pageNotOnPart := by
  simp [callTo, h]

/-- With SP = 0, CALL goes on exactly where the part has the page and R92 does not refuse it. -/
theorem callTo_next_iff_of_sp_zero {page : BitVec 2} {addr : Word10} {s t : State} (hsp : s.sp = 0) :
    callTo page addr s = .next t ↔
      hasPage s.params.part page = true ∧ pagedRefused s = false ∧ t = afterCall page addr s := by
  have hne : s.sp ≠ 1 := by simp [hsp]
  rw [callTo_next_iff]
  refine and_congr_right fun hpage => and_congr_right fun _ => ?_
  rw [jumpTarget_of_hasPage hpage, afterCall]
  simp only [hne, false_and, false_or, ne_eq, not_false_eq_true, true_and]

/-- Settles O29: the refusal, the overflow, and the completed CALL as `writeAsr` of the return address. -/
theorem callSavesAddress : Obligations.CallSavesAddress := by
  intro s page addr
  obtain ⟨hcycles, hwords⟩ := size_callInstr page addr
  rw [exec_callInstr]
  refine ⟨hcycles, hwords, callTo_of_not_hasPage, fun hpage hpaged => ⟨fun hsp => ?overflow, fun hsp => ?saves⟩⟩
  case overflow => exact callTo_next_iff.2 ⟨hpage, hpaged, .inl ⟨hsp, rfl⟩⟩
  case saves =>
    exact ⟨afterCall page addr s, (callTo_next_iff_of_sp_zero hsp).2 ⟨hpage, hpaged, rfl⟩, rfl,
      asrValue_afterCall page addr s, fun _ => readRam_writeAsr_of_ne, readRom_writeAsr _ s⟩

/-! ### RET (R232, R233) -/

section
variable {s : State} (hpaged : pagedRefused s = false)
include hpaged

theorem execRet_of_sp_zero (hsp : s.sp = 0) : execRet s = .next (internalReset .spUnderflow s) := by
  simp [execRet, hpaged, hsp]

theorem execRet_of_sp_one (hsp : s.sp = 1) :
    execRet s = .next { s with pc := truncAddr s.params.part (asrValue s), sp := 0 } := by
  simp [execRet, hpaged, hsp]

end

/-- Settles O30: the word by the encoder, the two outcomes by SP. -/
theorem returnRestoresAddress : Obligations.ReturnRestoresAddress :=
  ⟨oneWord_of_encode rfl fun _ => rfl, rfl, fun _ hpaged => ⟨execRet_of_sp_zero hpaged, execRet_of_sp_one hpaged⟩⟩

/-- Settles O31: the subroutine ends with the SP and ASR that CALL left, and this ASR is the address after the CALL. -/
theorem callThenReturn : Obligations.CallThenReturn := by
  intro s t u page addr hsp hcall hparams hspu hhigh hpage hrf hpaged
  rw [exec_callInstr, callTo_next_iff_of_sp_zero hsp] at hcall
  obtain ⟨-, -, rfl⟩ := hcall
  have hasr : asrValue u = s.nextPc 3 := (asrValue_congr hhigh hpage hrf).trans (asrValue_afterCall page addr s)
  have hpc : truncAddr u.params.part (asrValue u) = s.nextPc 3 := by
    rw [hasr, hparams]
    exact truncAddr_nextPc s 3
  exact (execRet_of_sp_one hpaged hspu).trans (by rw [hpc])

end Sys2Proof.Machine

/-! ## The timer operation instructions (R240 to R253) -/

namespace Sys2Proof.Machine

/-! ### Nibbles of T, M0 and M1 (R42, R240) -/

/-- R240: a write of the lower nibble as a mask and a shift, bit by bit. -/
theorem withNibbleLow_eq (x : Nibble) (v : Word10) :
    withNibbleLow x v = (v &&& 0x3C2) ||| (x.zeroExtend 10 <<< 2) := by
  refine BitVec.eq_of_getLsbD_eq fun k hk => BitVec.getLsbD_append.trans ?_
  simp only [BitVec.getLsbD_append]
  interval_cases k <;> simp

/-- R240: a write of the higher nibble as a mask and a shift, bit by bit. -/
theorem withNibbleHigh_eq (x : Nibble) (v : Word10) :
    withNibbleHigh x v = (v &&& 0x03D) ||| (x.zeroExtend 10 <<< 6) := by
  refine BitVec.eq_of_getLsbD_eq fun k hk => BitVec.getLsbD_append.trans ?_
  simp only [BitVec.getLsbD_append]
  interval_cases k <;> simp

/-- The fixed bit 9 of M0 (R42) is not in its lower nibble. -/
theorem nibbleLow_m0Value (s : State) : nibbleLow (m0Value s) = s.m0.extractLsb' 2 4 := by
  rw [nibbleLow, m0Value, BitVec.extractLsb'_and]
  exact BitVec.and_allOnes

/-- The fixed bit 9 of M0 (R42) is the top bit of its higher nibble. -/
theorem nibbleHigh_m0Value (s : State) : nibbleHigh (m0Value s) = s.m0.extractLsb' 6 4 &&& 0x7 :=
  BitVec.extractLsb'_and

/-- Masking a value before some of its bits are replaced adds nothing where the result is masked again. -/
theorem masked_replace_and_mask {w : Nat} (v keep x mask : BitVec w) :
    (((v &&& mask) &&& keep) ||| x) &&& mask = ((v &&& keep) ||| x) &&& mask := by
  refine BitVec.eq_of_getLsbD_eq fun k _ => ?_
  simp only [BitVec.getLsbD_and, BitVec.getLsbD_or]
  cases mask.getLsbD k <;> simp

/-- The nibble goes into M0 as read or as stored, for what M0 then holds (R42, R245). -/
theorem withNibbleLow_and_m0Mask (x : Nibble) (v : Word10) :
    withNibbleLow x (v &&& m0Mask) &&& m0Mask = withNibbleLow x v &&& m0Mask := by
  rw [withNibbleLow_eq, withNibbleLow_eq, masked_replace_and_mask]

theorem withNibbleHigh_and_m0Mask (x : Nibble) (v : Word10) :
    withNibbleHigh x (v &&& m0Mask) &&& m0Mask = withNibbleHigh x v &&& m0Mask := by
  rw [withNibbleHigh_eq, withNibbleHigh_eq, masked_replace_and_mask]

/-! ### Loading T, M0 and M1 (R42, R322, R328) -/

/-- The modulo value of M0 is what its mask keeps. -/
theorem extractLsb'_and_m0Mask (v : Word10) : (v &&& m0Mask).extractLsb' 0 9 = v.extractLsb' 0 9 := by
  rw [BitVec.extractLsb'_and]
  exact BitVec.and_allOnes

/-- A write of M0 sees the masked value alone (R42). -/
theorem writeM0_congr {v w : Word10} (h : v &&& m0Mask = w &&& m0Mask) (s : State) : writeM0 v s = writeM0 w s := by
  rw [writeM0, writeM0, ← extractLsb'_and_m0Mask v, ← extractLsb'_and_m0Mask w, h]

section
variable (v : Word10) (k : Nat) (s : State)

theorem timerStarted_timerWrite : Sys2Proof.Claims.timerStarted s (retire k (timerWrite v s)) v k := ⟨rfl, rfl⟩

/-- Loading M0, whatever the instruction makes of CY. -/
theorem m0Loaded_writeM0 (c : Bool) :
    Sys2Proof.Claims.m0Loaded s (retire k { writeM0 v s with cy := c }) v c k :=
  ⟨rfl, congrArg (fun u => { s.carrier with m0Written := true, unspecified := u }) (Bool.or_assoc _ _ _)⟩

/-- Loading M1, whatever the instruction makes of CY. -/
theorem m1Loaded_writeM1 (c : Bool) :
    Sys2Proof.Claims.m1Loaded s (retire k { writeM1 v s with cy := c }) v c k :=
  ⟨rfl, congrArg (fun u => { s.carrier with m1Written := true, unspecified := u }) (Bool.or_assoc _ _ _)⟩

end

/-! ### The instructions -/

/-- Settles O32: each meaning is `loadA` of a nibble, that of M0 without its bit 9. -/
theorem readTimerNibbles : Obligations.ReadTimerNibbles := by
  refine ⟨oneWord_of_encode rfl fun _ => rfl, oneWord_of_encode rfl fun _ => rfl, oneWord_of_encode rfl fun _ => rfl,
    oneWord_of_encode rfl fun _ => rfl, oneWord_of_encode rfl fun _ => rfl, oneWord_of_encode rfl fun _ => rfl,
    by simp [cyclesOf], fun s => ⟨rfl, rfl, ?m0Low, ?m0High, rfl, rfl⟩⟩
  case m0Low =>
    rw [← nibbleLow_m0Value]
    rfl
  case m0High =>
    rw [← nibbleHigh_m0Value]
    rfl

/-- Settles O33: each meaning is a timer write of T with one nibble replaced. -/
theorem writeTimerNibbles : Obligations.WriteTimerNibbles := by
  refine ⟨oneWord_of_encode rfl fun _ => rfl, oneWord_of_encode rfl fun _ => rfl, rfl, rfl, fun s => ?_⟩
  rw [← withNibbleLow_eq, ← withNibbleHigh_eq]
  exact ⟨⟨_, rfl, timerStarted_timerWrite _ 1 s⟩, ⟨_, rfl, timerStarted_timerWrite _ 1 s⟩⟩

/-- R245: the model replaces a nibble of M0 as read, the statement of M0 as stored. -/
theorem exec_movM0NibbleA (s : State) :
    exec .movM00A s = .next (retire 1 (forgetCy (writeM0 (withNibbleLow s.a s.m0) s))) ∧
    exec .movM01A s = .next (retire 1 (forgetCy (writeM0 (withNibbleHigh s.a s.m0) s))) := by
  rw [← writeM0_congr (withNibbleLow_and_m0Mask s.a s.m0), ← writeM0_congr (withNibbleHigh_and_m0Mask s.a s.m0)]
  exact ⟨rfl, rfl⟩

/-- Settles O34: each meaning loads a modulo register with one nibble replaced, and leaves a free value in CY. -/
theorem writeModuloNibbles : Obligations.WriteModuloNibbles := by
  refine ⟨oneWord_of_encode rfl fun _ => rfl, oneWord_of_encode rfl fun _ => rfl, oneWord_of_encode rfl fun _ => rfl,
    oneWord_of_encode rfl fun _ => rfl, by simp [cyclesOf], fun s => ?_⟩
  obtain ⟨hlow, hhigh⟩ := exec_movM0NibbleA s
  simp only [← withNibbleLow_eq, ← withNibbleHigh_eq]
  exact ⟨⟨_, hlow, m0Loaded_writeM0 _ 1 s _⟩, ⟨_, hhigh, m0Loaded_writeM0 _ 1 s _⟩,
    ⟨_, rfl, m1Loaded_writeM1 _ 1 s _⟩, ⟨_, rfl, m1Loaded_writeM1 _ 1 s _⟩⟩

/-- Settles O35: the data10 word is read back as the operand, and each meaning loads it. -/
theorem loadTimerImmediate : Obligations.LoadTimerImmediate := fun s d =>
  ⟨fun _ _ => decode_data10 rfl d, fun _ _ => decode_data10 rfl d, fun _ _ => decode_data10 rfl d,
    by simp [cyclesOf], ⟨_, rfl, timerStarted_timerWrite d 2 s⟩, ⟨_, rfl, m0Loaded_writeM0 d 2 s s.cy⟩,
    ⟨_, rfl, m1Loaded_writeM1 d 2 s s.cy⟩⟩

/-- An instruction that loads T, M0 or M1 with the data10 value of the table word, where the read is made (R87, R250,
R251, R253). -/
theorem exec_of_withTable_data10 {i : Instr} {s : State} (load : Word10 → State → State)
    (hread : Sys2Proof.Claims.tableReadable s)
    (hexec : exec i s = withTable s fun d => .next (retire 1 (load (data10Of d) s))) :
    exec i s = .next (retire 1 (load (data10Of (tableWord s)) s)) := by
  obtain ⟨hpaged, hmounted⟩ := hread
  rw [hexec, withTable_of_mounted hpaged hmounted]

/-- Settles O36: the same loads as those of O35, of the table word. -/
theorem loadTimerTable : Obligations.LoadTimerTable := by
  refine ⟨oneWord_of_encode rfl fun _ => rfl, oneWord_of_encode rfl fun _ => rfl, oneWord_of_encode rfl fun _ => rfl,
    by simp [cyclesOf], fun s hread => ⟨?timer, ?m0, ?m1⟩⟩
  case timer => exact ⟨_, exec_of_withTable_data10 timerWrite hread rfl, timerStarted_timerWrite _ 1 s⟩
  case m0 => exact ⟨_, exec_of_withTable_data10 writeM0 hread rfl, m0Loaded_writeM0 _ 1 s s.cy⟩
  case m1 => exact ⟨_, exec_of_withTable_data10 writeM1 hread rfl, m1Loaded_writeM1 _ 1 s s.cy⟩

end Sys2Proof.Machine

/-! ## The other instructions (R271 to R282) -/

namespace Sys2Proof.Machine

/-! ### NOP and SCAF (R271, R282) -/

/-- Settles O37: the meaning is `next` alone. -/
theorem nopOnlyAdvances : Obligations.NopOnlyAdvances :=
  ⟨oneWord_of_encode rfl fun _ => rfl, rfl, fun _ => rfl⟩

/-- R282: the five rows of the table, by the run of 1 bits from bit 0. -/
theorem scafValue_rows (a : Nibble) :
    (a.extractLsb' 0 1 = 0b0#1 → scafValue a = 0b0000) ∧ (a.extractLsb' 0 2 = 0b01#2 → scafValue a = 0b0001) ∧
    (a.extractLsb' 0 3 = 0b011#3 → scafValue a = 0b0011) ∧ (a = 0b0111 → scafValue a = 0b0111) ∧
    (a = 0b1111 → scafValue a = 0b1111) := by
  revert a; decide

/-- Settles O38: the meaning is `scafA`, whose value of A is the table's (`scafValue_rows`). -/
theorem scafTable : Obligations.ScafTable := by
  refine ⟨oneWord_of_encode rfl fun _ => rfl, rfl, fun s => ⟨retire 1 (scafA s), rfl, ?frame, ?rows⟩⟩
  case frame =>
    rw [← cyAllOnes_eq]
    rfl
  case rows => exact scafValue_rows s.a

/-! ### The condition of an operand (R272, R275) -/

section
variable {d : Nibble} {s : State}

/-- R272: a K_I pin is high. -/
theorem kiHigh_eq (s : State) : kiHigh s =
    (s.env.pins.ki.getLsbD 0 || s.env.pins.ki.getLsbD 1 || s.env.pins.ki.getLsbD 2 || s.env.pins.ki.getLsbD 3) := by
  have nonzero_iff_bit : ∀ x : Nibble, (x != 0) = (x.getLsbD 0 || x.getLsbD 1 || x.getLsbD 2 || x.getLsbD 3) := by
    decide
  exact nonzero_iff_bit _

theorem baseCond_ki (h : d.extractLsb' 0 3 ∈ [0b000#3, 0b011#3, 0b110#3]) : baseCond d s = some (kiHigh s) := by
  simp only [List.mem_cons, List.not_mem_nil, or_false] at h
  rcases h with h | h | h <;> simp [baseCond, h]

theorem baseCond_timer (h : d.extractLsb' 0 3 = 0b101#3) : baseCond d s = some (tmrZero s) := by
  simp [baseCond, h]

theorem baseCond_unlisted (h : d.extractLsb' 0 3 ∈ [0b001#3, 0b010#3, 0b100#3, 0b111#3]) : baseCond d s = none := by
  simp only [List.mem_cons, List.not_mem_nil, or_false] at h
  rcases h with h | h | h | h <;> simp [baseCond, h]

/-- R272: b3 adds a high S pin to the base condition. -/
theorem statusCond_of_baseCond {b : Bool} (h : baseCond d s = some b) :
    statusCond d s = some (b || (d.getLsbD 3 && sHigh s)) := by
  rw [statusCond, h, Option.map_some]

theorem haltIsTimer_iff : haltIsTimer d = true ↔ d.extractLsb' 0 3 = 0b101#3 := beq_iff_eq

theorem relCond_of_timer (h : haltIsTimer d = true) : relCond d s = tmrZero s := if_pos h

theorem relCond_of_not_timer (h : ¬ haltIsTimer d = true) : relCond d s = (kiHigh s || (d.getLsbD 3 && sHigh s)) :=
  if_neg h

end

/-- Settles O39, by the rows of the table. -/
theorem statusCondition : Obligations.StatusCondition := by
  rintro s d _ _ rfl rfl
  rw [← kiHigh_eq]
  refine ⟨fun hki => ⟨statusCond_of_baseCond (baseCond_ki hki), ?relKi⟩,
    fun htimer => ⟨statusCond_of_baseCond (baseCond_timer htimer), ?relTimer⟩, fun hnone => ?unlisted⟩
  case relKi =>
    refine relCond_of_not_timer fun htimer => ?_
    rw [haltIsTimer_iff.1 htimer] at hki
    exact absurd hki (by decide)
  case relTimer => exact relCond_of_timer (haltIsTimer_iff.2 htimer)
  case unlisted => rw [statusCond, baseCond_unlisted hnone, Option.map_none]

/-! ### STTS (R273, R274, R281) -/

/-- F after STTS, for an operand that has a condition (R273). -/
theorem sttsValue_of_statusCond {d : Nibble} {s : State} {b : Bool} (h : statusCond d s = some b) :
    sttsValue d s = b := by
  rw [sttsValue, h, Option.getD_some]

/-- No condition reads ASR, so naming RF changes none (R26, R272). -/
@[simp] theorem statusCond_touchRf (d n : Nibble) (s : State) : statusCond d (touchRf n s) = statusCond d s := by
  rw [touchRf_eq]
  rfl

/-- Settles O40: both meanings are `stts`, the second where R92 does not refuse the cell. -/
theorem sttsWritesF : Obligations.SttsWritesF := by
  intro s n d
  refine ⟨fun _ _ => decode_data4 rfl d, oneWord_of_encode rfl fun _ => rfl, rfl, rfl,
    ⟨_, rfl, rfl, fun _ => sttsValue_of_statusCond⟩,
    fun hcell => ⟨_, exec_of_withCell (stts (readCell 0 n s)) hcell rfl, ?frame, fun hn => ?asr, fun b hb => ?flag⟩⟩
  case frame =>
    rw [touchRf_eq]
    rfl
  case asr => rw [retire_asrHigh, stts_asrHigh, touchRf_of_ne s hn]
  case flag => exact sttsValue_of_statusCond ((statusCond_touchRf _ n s).trans hb)

/-! ### HALT (R275 to R278, R340, R341) -/

/-- R276: HALT raises no reset. -/
def haltPermitted (d : Nibble) (s : State) : Bool := haltListed d && haltPrecondition d s

/-- R275: the operands of the table, each with its precondition. -/
theorem haltPermitted_eq (d : Nibble) (s : State) : haltPermitted d s =
    (d.extractLsb' 0 3 == 0b101#3 ||
      ((d.extractLsb' 0 3 == 0b000#3 || d.extractLsb' 0 3 == 0b011#3) && s.p4.getLsbD 1 && s.p0Latch == 0xFF) ||
      (d.extractLsb' 0 3 == 0b110#3 && s.p4.getLsbD 1 && s.p0Latch.getLsbD 0)) := by
  have row : ∀ x : BitVec 3, x = 0b101#3 ∨ x = 0b000#3 ∨ x = 0b011#3 ∨ x = 0b110#3 ∨
      x = 0b001#3 ∨ x = 0b010#3 ∨ x = 0b100#3 ∨ x = 0b111#3 := by decide
  rcases row (d.extractLsb' 0 3) with h | h | h | h | h | h | h | h <;>
    simp [haltPermitted, haltListed, haltPrecondition, h]

section
variable {d : Nibble} {s : State}

theorem execHaltData4_of_not_permitted (h : haltPermitted d s = false) :
    execHaltData4 d s = .next (internalReset .haltIllegal s) :=
  if_pos (by rwa [← Bool.not_and, Bool.not_eq_true'])

/-- HALT where R276 raises no reset, by the release condition and F (R277, R278). -/
theorem execHaltData4_of_permitted (h : haltPermitted d s = true) :
    execHaltData4 d s =
      if relCond d s then .next { retire 2 s with f := true }
      else if s.f then .next { retire 2 s with f := false }
      else .next (enterStandby d (retire 2 s)) :=
  if_neg (by rw [← Bool.not_and, ← haltPermitted, h]; decide)

theorem execHaltData4_of_standby (hok : haltPermitted d s = true) (hrel : relCond d s = false) (hf : s.f = false) :
    execHaltData4 d s = .next (enterStandby d (retire 2 s)) := by
  simp [execHaltData4_of_permitted hok, hrel, hf]

theorem enterStandby_of_timer (h : d.extractLsb' 0 3 = 0b101#3) : enterStandby d s = { s with mode := .halt d } :=
  if_pos (haltIsTimer_iff.2 h)

theorem enterStandby_of_not_timer (h : d.extractLsb' 0 3 ≠ 0b101#3) :
    enterStandby d s = { timerStop s with mode := .stop d } :=
  if_neg (mt haltIsTimer_iff.1 h)

end

/-- Settles O41, by the reset check, the release condition, F and the kind of operand. -/
theorem haltCases : Obligations.HaltCases := by
  refine ⟨fun d => ⟨fun _ _ => decode_data4 rfl d, rfl⟩, ?_⟩
  rintro s d _ rfl
  rw [← haltPermitted_eq]
  refine ⟨execHaltData4_of_not_permitted, fun hok hrel => ?released, fun hok hrel hf => ?flagCleared,
    fun hok hrel hf htimer => ?haltMode, fun hok hrel hf hstop => ?stopMode⟩
  case released => exact (execHaltData4_of_permitted hok).trans (if_pos hrel)
  case flagCleared =>
    exact (execHaltData4_of_permitted hok).trans ((if_neg (Bool.eq_false_iff.1 hrel)).trans (if_pos hf))
  case haltMode => exact (execHaltData4_of_standby hok hrel hf).trans (congrArg _ (enterStandby_of_timer htimer))
  case stopMode => exact (execHaltData4_of_standby hok hrel hf).trans (congrArg _ (enterStandby_of_not_timer hstop))

end Sys2Proof.Machine

/-! ## The system reset and the supply (R300 to R304, R350 to R352, R370) -/

namespace Sys2Proof.Machine

/-! ### What an instruction does to the operating state (R302, R340) -/

theorem internalReset_mode (cause : ResetCause) (s : State) :
    (internalReset cause s).mode = .resetWait (cause == .poc) := by
  cases cause <;> rfl

/-- HALT mode for ×101B, STOP mode for the other operands (R340). -/
theorem enterStandby_mode (d : Nibble) (s : State) :
    (enterStandby d s).mode = if haltIsTimer d then .halt d else .stop d := by
  unfold enterStandby
  split <;> rfl

/-- An instruction leaves the operating state alone, but for a HALT that waits and a reset. -/
theorem effect_mode {i : Instr} {s t : State} (he : Effect i s t) :
    t.mode = s.mode ∨ (∃ d, i = .haltData4 d ∧ s.f = false ∧ t = enterStandby d (retire 2 s)) ∨
      (∃ cause, Sys2Proof.Claims.raisesReset i s ∧ t = internalReset cause s) := by
  cases he with
  | haltWaits d hd hf => exact .inr (.inl ⟨d, rfl, hf, rfl⟩)
  | reset cause hr => exact .inr (.inr ⟨cause, hr, rfl⟩)
  | _ => exact .inl (by simp)

/-- The four causes of R302 inside an instruction do raise the reset. -/
theorem exec_of_raisesReset {i : Instr} {s t : State} (hr : Sys2Proof.Claims.raisesReset i s)
    (h : exec i s = .next t) : ∃ cause, t = internalReset cause s := by
  obtain ⟨d, rfl, hbad⟩ | ⟨rfl, ha⟩ | ⟨page, addr, rfl, hsp⟩ | ⟨rfl, hsp⟩ := hr
  · have hnot : haltPermitted d s = false := by simpa only [haltPermitted, Bool.and_eq_false_iff] using hbad
    cases (execHaltData4_of_not_permitted hnot).symm.trans h
    exact ⟨_, rfl⟩
  · have hreset : execRlzA s = .next (internalReset .rlzZero s) := if_pos ha
    cases hreset.symm.trans h
    exact ⟨_, rfl⟩
  · rw [exec_callInstr] at h
    obtain ⟨-, -, ⟨-, rfl⟩ | ⟨hne, -⟩⟩ := callTo_next_iff.1 h
    · exact ⟨_, rfl⟩
    · exact absurd hsp hne
  · cases hp : pagedRefused s with
    | true =>
      have hrefused : execRet s = .refused .pagedR0Rf := if_pos hp
      cases hrefused.symm.trans h
    | false =>
      cases (execRet_of_sp_zero hp hsp).symm.trans h
      exact ⟨_, rfl⟩

/-- Settles O46: one way by what an instruction does to MODE, the other by the four causes. -/
theorem onlyFourInstructionsReset : Obligations.OnlyFourInstructionsReset := by
  intro i s t hrun h
  constructor
  · rintro ⟨poc, hwait⟩
    obtain hsame | ⟨d, -, -, rfl⟩ | ⟨-, hr, -⟩ := effect_mode (exec_effect h)
    · simp [hsame, hrun] at hwait
    · rw [enterStandby_mode] at hwait
      split at hwait <;> cases hwait
    · exact hr
  · intro hr
    obtain ⟨cause, rfl⟩ := exec_of_raisesReset hr h
    exact ⟨_, internalReset_mode cause s⟩

/-! ### The supply and the wait after a reset (R346, R350 to R352, R372, R374) -/

section
variable {s : State}

theorem step_of_belowPoc (h : (sample s).env.supply = .belowPoc) :
    step s = .next (advanceFree (resetState true (sample s))) := by
  simp [step, cycle, h, pocReset_eq]

theorem step_of_belowVid (h : (sample s).env.supply = .belowVid) :
    step s = .next (advanceFree (resetState true (loseRam (sample s)))) := by
  simp [step, cycle, h, pocReset_eq]

theorem step_of_dip (h : (sample s).env.supply = .dip) : step s = .refused .supplyMalfunction := by
  simp [step, cycle, h]

theorem step_of_resetWait {held : Bool} (hm : s.mode = .resetWait held) (h : (sample s).env.supply = .normal) :
    step s = resetCycle held (sample s) := by
  simp [step, cycle, h, modeCycle, hm]

end

/-- A reset leaves 0 in both cells of R0 of page 0 (R92). -/
theorem resetState_r0 (held : Bool) (s : State) :
    (resetState held s).mem.readRam (ramAddr 0 0 0) = 0 ∧ (resetState held s).mem.readRam (ramAddr 0 1 0) = 0 :=
  ⟨(resetState_readRam held s _).trans (if_pos (.inl rfl)), (resetState_readRam held s _).trans (if_pos (.inr rfl))⟩

/-- Below V_ID no writable bit of P3 outlives the reset: the flag is cleared before it (R60, R351). -/
theorem resetState_loseRam_p3 (held : Bool) (s : State) : (resetState held (loseRam s)).p3 = 0 := by
  rw [resetState_p3, loseRam_p3, BitVec.and_assoc]
  exact BitVec.and_zero

/-- Settles O44: both falls of the supply lead to the reset table, below V_ID on lost RAM. -/
theorem supplyResets : Obligations.SupplyResets := by
  refine fun s => ⟨fun h => ?belowPoc, fun h => ?belowVid, step_of_dip⟩
  case belowPoc =>
    obtain ⟨hr00, hr10⟩ := resetState_r0 true (sample s)
    refine ⟨_, step_of_belowPoc h, rfl, rfl, ?flag, rfl, rfl, rfl, rfl, rfl, rfl, rfl, ?asr, hr00, hr10,
      fun c h0 h1 => ?others⟩
    case flag => simp
    case asr => simp
    case others => rw [advanceFree_mem, resetState_readRam, if_neg (not_or.2 ⟨h0, h1⟩), sample_mem]
  case belowVid =>
    exact ⟨_, step_of_belowVid h, rfl, rfl, resetState_loseRam_p3 true _, rfl, rfl, rfl, rfl, rfl, rfl, rfl,
      resetState_r0 true _⟩

/-- RESET_WAIT where R374 does not refuse the step: the wait is over or goes on (R352). -/
theorem resetCycle_of_not_refused {held : Bool} {s : State} (h : held = true → s.env.pins.ki ≠ 0xF) :
    resetCycle held s =
      if waitOver s then .next (advanceFree (leaveReset s)) else .next (advanceFree (releasePoc s)) :=
  if_neg (by simpa using h)

/-- Settles O45: refused by R374, else by whether the oscillator's wait is over. -/
theorem leavingReset : Obligations.LeavingReset := by
  intro s held hm hsupply
  rw [step_of_resetWait hm hsupply]
  refine ⟨fun hheld hki => ?refused, fun hok => ?goesOn⟩
  case refused => simp [resetCycle, hheld, hki]
  case goesOn =>
    rw [resetCycle_of_not_refused hok, ← sample_free]
    refine ⟨fun hosc hin => if_neg fun hover => ?_, fun hover => if_pos (waitOver_iff.2 hover)⟩
    obtain hstable | hnone := waitOver_iff.1 hover
    · simp [hosc] at hstable
    · exact hin hnone

end Sys2Proof.Machine

/-! ## The timer, the carrier generator and the outputs (R51, R321 to R327) -/

namespace Sys2Proof.Machine

/-! ### A 9-bit counter (R40, R324) -/

section
variable {count : BitVec 9}

theorem count_pos_iff : 0 < count.toNat ↔ count ≠ 0 := by
  rw [Nat.pos_iff_ne_zero, ne_eq, ne_eq, BitVec.toNat_eq]
  rfl

theorem count_sub_one_toNat (h : count ≠ 0) : (count - 1).toNat = count.toNat - 1 :=
  BitVec.toNat_sub_of_le (BitVec.le_def.2 (count_pos_iff.2 h))

end

/-! ### The count event (R321, R322) -/

section
variable {s : State}

/-- The counter and t9 are the two parts of T (R40), so counting down is taking one from T. -/
theorem withCount_eq_sub_one {v : Word10} (h : v.extractLsb' 0 9 ≠ 0) :
    (v.extractLsb' 9 1 ++ (v.extractLsb' 0 9 - 1) : Word10) = v - 1 := by
  revert v
  decide +kernel

theorem tick_of_count_ne_zero (hc : clockRuns s.mode = true) (h : timerCount s ≠ 0) :
    tick s = { s with t := s.t - 1, carrier := carrierCycle s } := by
  rw [tick_running hc, if_pos h, timerCount, withCount_eq_sub_one h]

theorem tick_of_count_zero (hc : clockRuns s.mode = true) (h : timerCount s = 0) :
    tick s = { s with trun := false, carrier := carrierCycle s } := by
  rw [tick_running hc, if_neg (not_not.2 h)]

/-- The counter goes down and stops at 0. -/
theorem timerCount_tick (hc : clockRuns s.mode = true) :
    (timerCount (tick s)).toNat = (timerCount s).toNat - 1 := by
  by_cases h : timerCount s = 0
  · have hzero : timerCount (tick s) = 0 := by rwa [tick_of_count_zero hc h]
    rw [hzero, h]
    rfl
  · have hcount : timerCount (tick s) = timerCount s - 1 := by
      rw [tick_running hc, if_pos h]
      exact BitVec.extractLsb'_append_eq_right
    rw [hcount, count_sub_one_toNat h]

/-- The timer operation goes on while a count event finds the counter above 0. -/
theorem trun_tick (hc : clockRuns s.mode = true) :
    (tick s).trun = (s.trun && decide (0 < (timerCount s).toNat)) := by
  by_cases h : timerCount s = 0
  · simp [tick_of_count_zero hc h, h]
  · simp [tick_of_count_ne_zero hc h, count_pos_iff.2 h]

end

/-- R322: the counter and the timer operation after `k` count events. -/
theorem ticks_counts (k : Nat) {s : State} (hc : clockRuns s.mode = true) :
    (timerCount (ticks k s)).toNat = (timerCount s).toNat - k ∧
      (ticks k s).trun = (s.trun && decide (k ≤ (timerCount s).toNat)) ∧
      timerEnable (ticks k s) = timerEnable s := by
  induction k generalizing s with
  | zero => simp [ticks]
  | succ k ih =>
    obtain ⟨hcount, htrun, henable⟩ := ih (s := tick s) (by rwa [tick_mode])
    rw [timerCount_tick hc] at hcount htrun
    rw [trun_tick hc, Bool.and_assoc, ← Bool.decide_and] at htrun
    have hbound : (0 < (timerCount s).toNat ∧ k ≤ (timerCount s).toNat - 1) ↔ k + 1 ≤ (timerCount s).toNat := by
      omega
    rw [decide_eq_decide.2 hbound] at htrun
    exact ⟨hcount.trans (by omega), htrun, henable.trans (timerEnable_tick s)⟩

/-- Settles O48, by the count events on the state that the timer write leaves. -/
theorem timerOperatesSetValuePlusOne : Obligations.TimerOperatesSetValuePlusOne := by
  intro s v k hc
  obtain ⟨hcount, htrun, henable⟩ := ticks_counts k (s := timerWrite v s) hc
  rw [timerWrite_trun, Bool.true_and] at htrun
  refine ⟨htrun, BitVec.eq_of_toNat_eq (hcount.trans (Nat.mod_eq_of_lt ?_).symm), henable⟩
  exact Nat.lt_of_le_of_lt (Nat.sub_le _ k) (timerCount (timerWrite v s)).isLt

/-! ### The carrier generator over a machine cycle (R324, R325) -/

section
variable {s : State}

theorem carrierCycle_of_running (hon : outputActive s = true) (h : (cary s && timerCount s == 0) = false) :
    carrierCycle s = carrierCycleActive (m0Modulo s) (m1Modulo s) s.carrier :=
  (if_pos hon).trans (if_neg (Bool.eq_false_iff.1 h))

theorem carrierCycle_of_steady_end (hon : outputActive s = true) (h : (cary s && timerCount s == 0) = true) :
    carrierCycle s = s.carrier.rest :=
  (if_pos hon).trans (if_pos h)

theorem carrierCycle_of_low (hoff : outputActive s = false) (h : s.carrier.high = false) :
    carrierCycle s = s.carrier := by
  simp [carrierCycle, hoff, carrierCycleIdle, h]

/-- Fewer than 128 clocks are left of the high phase, so it ends in this cycle (R326). -/
theorem carrierCycle_of_high_ending (hoff : outputActive s = false) (h : s.carrier.high = true)
    (hcount : s.carrier.count.toNat < 128) : carrierCycle s = s.carrier.rest := by
  simp [carrierCycle, hoff, carrierCycleIdle, h, clocksPerCycle, hcount]

theorem carrierCycle_of_high_lasting (hoff : outputActive s = false) (h : s.carrier.high = true)
    (hcount : 128 ≤ s.carrier.count.toNat) :
    carrierCycle s = { s.carrier with count := s.carrier.count - 128 } := by
  simp [carrierCycle, hoff, carrierCycleIdle, h, clocksPerCycle, Nat.not_lt.2 hcount]

end

/-- Settles O47: T and TRUN by the counter, the carrier generator by the cases of its machine cycle. -/
theorem tickCounts : Obligations.TickCounts := by
  refine fun s => ⟨fun hc => ?_, tick_stopped⟩
  rw [tick_carrier hc]
  exact ⟨fun h => ⟨tick_of_count_ne_zero hc h, by rw [← withCount_eq_sub_one h, getLsbD_withCount]⟩,
    tick_of_count_zero hc, carrierCycle_of_running, carrierCycle_of_steady_end, carrierCycle_of_low,
    carrierCycle_of_high_ending, carrierCycle_of_high_lasting⟩

/-! ### The closed form of the carrier generator (R324, R325) -/

section
variable {m0 m1 : BitVec 9} {c : Carrier}

/-- The counter is within its phase, low for M0 and high for M1 (R324). -/
def Carrier.inPhase (m0 m1 : BitVec 9) (c : Carrier) : Prop := c.count ≤ (if c.high then m1 else m0)

/-- The position counts the clocks of the period that are over, so its place is the counter it came from. -/
theorem carrierAt_carrierPosition (h : c.inPhase m0 m1) : carrierAt m0 m1 (carrierPosition m0 m1 c) c = c := by
  obtain ⟨count, high, _, _, _⟩ := c
  cases high
  · have hle : count.toNat ≤ m0.toNat := BitVec.le_def.1 h
    have hlow : m0.toNat - count.toNat < carrierPhaseClocks m0 := Nat.lt_succ_of_le (Nat.sub_le _ _)
    simp [carrierPosition, carrierAt, hlow, Nat.sub_sub_self hle]
  · have hle : count.toNat ≤ m1.toNat := BitVec.le_def.1 h
    have hhigh : ¬ carrierPhaseClocks m0 + (m1.toNat - count.toNat) < carrierPhaseClocks m0 :=
      Nat.not_lt.2 (Nat.le_add_right _ _)
    simp [carrierPosition, carrierAt, hhigh, Nat.sub_sub_self hle]

theorem carrierPosition_lt : carrierPosition m0 m1 c < carrierPeriodClocks m0 m1 := by
  unfold carrierPosition carrierPeriodClocks carrierPhaseClocks
  split <;> omega

theorem inPhase_carrierClock (h : c.inPhase m0 m1) : (carrierClock m0 m1 c).inPhase m0 m1 := by
  unfold carrierClock
  split_ifs with hcount hhigh
  · rw [Carrier.inPhase, BitVec.le_def, count_sub_one_toNat hcount]
    exact Nat.le_trans (Nat.sub_le _ 1) (BitVec.le_def.1 h)
  · exact BitVec.le_refl m0
  · exact BitVec.le_refl m1

/-- Inside a phase a clock is one place further. -/
theorem carrierPosition_count_sub_one (h : c.inPhase m0 m1) (hcount : c.count ≠ 0) :
    carrierPosition m0 m1 { c with count := c.count - 1 } = carrierPosition m0 m1 c + 1 := by
  have hpos := count_pos_iff.2 hcount
  have hle := BitVec.le_def.1 h
  simp only [carrierPosition, count_sub_one_toNat hcount]
  split
  next hhigh => rw [if_pos hhigh] at hle; omega
  next hlow => rw [if_neg hlow] at hle; omega

/-- A clock is one place further in the period, and the end of the high phase is the period's start (R324). -/
theorem carrierPosition_carrierClock (h : c.inPhase m0 m1) :
    carrierPosition m0 m1 (carrierClock m0 m1 c) = (carrierPosition m0 m1 c + 1) % carrierPeriodClocks m0 m1 := by
  unfold carrierClock
  split_ifs with hcount hhigh
  · rw [← carrierPosition_count_sub_one h hcount, Nat.mod_eq_of_lt carrierPosition_lt]
  · have hend : carrierPosition m0 m1 c + 1 = carrierPeriodClocks m0 m1 := by
      simp [carrierPosition, carrierPeriodClocks, carrierPhaseClocks, hhigh, not_not.1 hcount, Nat.add_assoc]
    rw [hend, Nat.mod_self]
    simp [carrierPosition]
  · have hend : carrierPosition m0 m1 c + 1 = carrierPhaseClocks m0 := by
      simp [carrierPosition, carrierPhaseClocks, hhigh, not_not.1 hcount]
    have hlt : carrierPhaseClocks m0 < carrierPeriodClocks m0 m1 := Nat.lt_add_of_pos_right (Nat.succ_pos _)
    rw [hend, Nat.mod_eq_of_lt hlt]
    simp [carrierPosition]

/-- The generator put somewhere does not depend on where it stood. -/
theorem carrierAt_carrierClock (pos : Nat) : carrierAt m0 m1 pos (carrierClock m0 m1 c) = carrierAt m0 m1 pos c := by
  unfold carrierClock carrierAt
  split_ifs <;> rfl

/-- `k` clocks are `k` places further in the period. -/
theorem carrierClocks_eq_carrierAt (k : Nat) (h : c.inPhase m0 m1) :
    carrierClocks m0 m1 k c = carrierAt m0 m1 ((carrierPosition m0 m1 c + k) % carrierPeriodClocks m0 m1) c := by
  induction k generalizing c with
  | zero => rw [Nat.add_zero, Nat.mod_eq_of_lt carrierPosition_lt, carrierAt_carrierPosition h]; rfl
  | succ k ih =>
    rw [carrierClocks, ih (inPhase_carrierClock h), carrierAt_carrierClock, carrierPosition_carrierClock h,
      Nat.mod_add_mod, Nat.add_assoc, Nat.add_comm 1 k]

end

/-- Settles O49: the closed form is 128 places further in the period. -/
theorem carrierCycleIsClocks : Obligations.CarrierCycleIsClocks :=
  fun _ _ _ h => (carrierClocks_eq_carrierAt 128 h).symm

/-! ### REM (R326, R327) -/

section
variable {s : State}

theorem remOutput_of_steady (hspec : s.carrier.unspecified = false) (hon : outputActive s = true)
    (hcary : cary s = true) : remOutput s = .high := by
  simp [remOutput, hspec, hon, hcary]

theorem remOutput_of_carrier (hspec : s.carrier.unspecified = false) (hon : outputActive s = true)
    (hcary : cary s = false) : remOutput s = .carrier s.carrier.high := by
  simp [remOutput, hspec, hon, hcary]

/-- With the output not active REM shows whether a high phase is still to be completed. -/
theorem remOutput_of_inactive (hspec : s.carrier.unspecified = false) (hoff : outputActive s = false) :
    remOutput s = if s.carrier.high then .carrier true else .low := by
  simp [remOutput, hspec, hoff]

/-- Counting does not start an output that is not active. -/
theorem outputActive_tick_of_inactive (hoff : outputActive s = false) : outputActive (tick s) = false :=
  eq_false_of_ne_true fun hon => Bool.eq_false_iff.1 hoff (outputActive_of_tick hon)

theorem outputActive_tick_of_count_zero (hc : clockRuns s.mode = true) (h : timerCount s = 0) :
    outputActive (tick s) = false :=
  outputActive_of_stopped (by rw [tick_of_count_zero hc h])

/-- A machine cycle that leaves the output inactive and the generator at rest ends with REM low. -/
theorem remOutput_tick_of_rest (hspec : s.carrier.unspecified = false) (hc : clockRuns s.mode = true)
    (hoff : outputActive (tick s) = false) (hrest : carrierCycle s = s.carrier.rest) : remOutput (tick s) = .low := by
  rw [← tick_carrier hc] at hrest
  rw [remOutput_of_inactive (by rw [hrest, rest_unspecified, hspec]) hoff, hrest]
  rfl

end

/-- Settles O50: REM by the output and the high phase, before and after the count event; the other pins by P4. -/
theorem outputPins : Obligations.OutputPins := by
  refine fun s => ⟨fun hspec => ⟨fun hon hcary => ?steady, remOutput_of_carrier hspec, fun hoff hlow => ?low,
    fun hoff hhigh => ?high⟩, fun h => if_pos h, fun h => if_neg (Bool.eq_false_iff.1 h),
    fun h => if_pos h, fun h => if_neg (Bool.eq_false_iff.1 h)⟩
  case steady =>
    refine ⟨remOutput_of_steady hspec hon hcary, fun hc hzero => ?_⟩
    have hend : (cary s && timerCount s == 0) = true := Bool.and_eq_true_iff.2 ⟨hcary, beq_iff_eq.2 hzero⟩
    exact remOutput_tick_of_rest hspec hc (outputActive_tick_of_count_zero hc hzero)
      (carrierCycle_of_steady_end hon hend)
  case low => exact (remOutput_of_inactive hspec hoff).trans (if_neg (Bool.eq_false_iff.1 hlow))
  case high =>
    have hoff' := outputActive_tick_of_inactive hoff
    have hnow : remOutput s = .carrier true := (remOutput_of_inactive hspec hoff).trans (if_pos hhigh)
    refine ⟨hnow, fun hc hcount => ?ending, fun hc hcount => ?lasting⟩
    case ending => exact remOutput_tick_of_rest hspec hc hoff' (carrierCycle_of_high_ending hoff hhigh hcount)
    case lasting =>
      have hcarrier := (tick_carrier hc).trans (carrierCycle_of_high_lasting hoff hhigh hcount)
      rw [remOutput_of_inactive (by rw [hcarrier, hspec]) hoff', hcarrier]
      exact if_pos hhigh

end Sys2Proof.Machine

/-! ## The standby modes (R340 to R345) -/

namespace Sys2Proof.Machine

/-! ### Entering (R277, R278, R340) -/

/-- A HALT that leads into a standby mode found the release condition not holding (R278). -/
theorem relCond_of_execHaltData4_standby {d x : Nibble} {s t : State} (hrun : s.mode = .run)
    (h : execHaltData4 d s = .next t) (hm : t.mode = .halt x ∨ t.mode = .stop x) : relCond d s = false := by
  cases hok : haltPermitted d s with
  | false =>
    cases (execHaltData4_of_not_permitted hok).symm.trans h
    simp [internalReset_mode] at hm
  | true =>
    refine eq_false_of_ne_true fun hrel => ?_
    rw [execHaltData4_of_permitted hok, if_pos hrel] at h
    cases h
    simp [hrun] at hm

/-- Settles O53: the instruction and F by what an instruction does to MODE, the condition by HALT's own meaning. -/
theorem onlyHaltEntersStandby : Obligations.OnlyHaltEntersStandby := by
  intro i s t d hrun h hm
  obtain hsame | ⟨x, rfl, hf, rfl⟩ | ⟨cause, -, rfl⟩ := effect_mode (exec_effect h)
  · simp [hsame, hrun] at hm
  · have hrel := relCond_of_execHaltData4_standby hrun h hm
    have hx : x = d := by
      rw [enterStandby_mode] at hm
      split at hm <;> simpa using hm
    exact ⟨congrArg _ hx, hf, hx ▸ hrel⟩
  · simp [internalReset_mode] at hm

/-! ### The samples to come (R353) -/

section
variable {s : State}

theorem sample_of_inputs_nil (h : s.inputs = []) : sample s = s := by simp [sample, h]

theorem sample_of_inputs_cons {e : Env} {rest : List Env} (h : s.inputs = e :: rest) :
    sample s = { s with env := e, inputs := rest } := by simp [sample, h]

theorem samplesToCome_of_inputs_nil (h : s.inputs = []) : samplesToCome s = [s.env] := by simp [samplesToCome, h]

theorem samplesToCome_of_inputs_cons {e : Env} {rest : List Env} (h : s.inputs = e :: rest) :
    samplesToCome s = e :: rest := by simp [samplesToCome, h]

@[simp] theorem samplesToCome_tick (s : State) : samplesToCome (tick s) = samplesToCome s := by simp [samplesToCome]

@[simp] theorem samplesToCome_advanceFree (s : State) : samplesToCome (advanceFree s) = samplesToCome s := rfl

/-- The sample a step takes is one of those to come. -/
theorem env_sample_mem (s : State) : (sample s).env ∈ samplesToCome s := by
  cases h : s.inputs with
  | nil => simp [samplesToCome_of_inputs_nil h, sample_of_inputs_nil h]
  | cons e rest => simp [samplesToCome_of_inputs_cons h, sample_of_inputs_cons h]

/-- Taking a sample adds none to those to come. -/
theorem samplesToCome_sample_subset (s : State) : samplesToCome (sample s) ⊆ samplesToCome s := by
  cases h : s.inputs with
  | nil => rw [sample_of_inputs_nil h]; exact List.Subset.refl _
  | cons e rest =>
    rw [samplesToCome_of_inputs_cons h, sample_of_inputs_cons h]
    cases rest with
    | nil => exact List.Subset.refl _
    | cons e' rest => exact List.subset_cons_self _ _

end

/-! ### HALT mode (R342, R343) -/

/-- Every sample to come has the supply above V_POC. -/
def suppliesNormal (s : State) : Prop := ∀ e ∈ samplesToCome s, e.supply = .normal

theorem suppliesNormal_of_inputs {s : State} (henv : s.env.supply = .normal)
    (hin : ∀ e ∈ s.inputs, e.supply = .normal) : suppliesNormal s := by
  unfold suppliesNormal samplesToCome
  split
  · simpa using henv
  · exact hin

theorem suppliesNormal_sample {s : State} (h : suppliesNormal s) : suppliesNormal (sample s) :=
  fun e he => h e (samplesToCome_sample_subset s he)

/-- `k` waiting cycles of HALT mode lead from one state to the other (R342). -/
structure HaltWaited (d : Nibble) (k : Nat) (s t : State) : Prop where
  run : runsTo k s t
  mode : t.mode = .halt d
  supplies : suppliesNormal t
  count : (timerCount t).toNat = (timerCount s).toNat - k
  pc : t.pc = s.pc
  f : t.f = s.f
  a : t.a = s.a
  cy : t.cy = s.cy
  trun : t.trun = s.trun
  mem : t.mem = s.mem

section
variable {d : Nibble} {s : State} (hm : s.mode = .halt d) (htimer : haltIsTimer d = true) (hsup : suppliesNormal s)
include hm htimer hsup

/-- HALT mode waits while the counter is not 0 (R342). -/
theorem step_of_halt_waiting (hcount : timerCount s ≠ 0) : step s = .next (advanceFree (tick (sample s))) := by
  have hrel : relCond d (sample s) = false := by
    rw [relCond_of_timer htimer, tmrZero, timerCount, sample_t]
    exact beq_false_of_ne hcount
  simp [step, cycle, hsup _ (env_sample_mem s), modeCycle, hm, haltCycle, hrel]

/-- At a counter of 0 HALT mode is left, and the next instruction runs in the same step (R343). -/
theorem step_of_halt_released (hcount : timerCount s = 0) : step s = runInstr (releaseHalt (sample s)) := by
  have hrel : relCond d (sample s) = true := by
    rw [relCond_of_timer htimer, tmrZero, timerCount, sample_t]
    exact beq_iff_eq.2 hcount
  simp [step, cycle, hsup _ (env_sample_mem s), modeCycle, hm, haltCycle, hrel]

theorem haltWaited_one (hcount : timerCount s ≠ 0) : HaltWaited d 1 s (advanceFree (tick (sample s))) := by
  have hc : clockRuns (sample s).mode = true := by rw [sample_mode, hm]; rfl
  have hsample : timerCount (sample s) = timerCount s := by rw [timerCount, sample_t, timerCount]
  refine ⟨⟨_, step_of_halt_waiting hm htimer hsup hcount, rfl⟩,
    ?mode, ?supplies, ?count, ?pc, ?f, ?a, ?cy, ?trun, ?mem⟩
  case supplies =>
    intro e he
    rw [samplesToCome_advanceFree, samplesToCome_tick] at he
    exact suppliesNormal_sample hsup e he
  case count =>
    rw [← hsample]
    exact timerCount_tick hc
  case trun =>
    rw [advanceFree_trun, trun_tick hc, hsample]
    simp [count_pos_iff.2 hcount]
  all_goals simp [hm]

end

theorem runsTo_trans {j k : Nat} {s u t : State} (h : runsTo j s u) (h' : runsTo k u t) : runsTo (j + k) s t := by
  induction j generalizing s with
  | zero => cases h; rwa [Nat.zero_add]
  | succ j ih =>
    obtain ⟨v, hstep, hrun⟩ := h
    rw [Nat.succ_add]
    exact ⟨v, hstep, ih hrun⟩

theorem HaltWaited.trans {d : Nibble} {j k : Nat} {s u t : State} (h : HaltWaited d j s u) (h' : HaltWaited d k u t) :
    HaltWaited d (j + k) s t where
  run := runsTo_trans h.run h'.run
  mode := h'.mode
  supplies := h'.supplies
  count := by rw [h'.count, h.count, Nat.sub_sub]
  pc := h'.pc.trans h.pc
  f := h'.f.trans h.f
  a := h'.a.trans h.a
  cy := h'.cy.trans h.cy
  trun := h'.trun.trans h.trun
  mem := h'.mem.trans h.mem

/-- HALT mode waits as long as the counter has cycles left (R342). -/
theorem exists_haltWaited {d : Nibble} {s : State} (hm : s.mode = .halt d) (htimer : haltIsTimer d = true)
    (hsup : suppliesNormal s) (k : Nat) (hk : k ≤ (timerCount s).toNat) : ∃ t, HaltWaited d k s t := by
  induction k with
  | zero => exact ⟨s, rfl, hm, hsup, rfl, rfl, rfl, rfl, rfl, rfl, rfl⟩
  | succ k ih =>
    obtain ⟨u, hu⟩ := ih (by omega)
    have hleft : timerCount u ≠ 0 := count_pos_iff.1 (by rw [hu.count]; omega)
    exact ⟨_, hu.trans (haltWaited_one hu.mode htimer hu.supplies hleft)⟩

/-- Settles O51: the waiting cycles by the counter, then the release at 0. -/
theorem haltModeLastsCounterCycles : Obligations.HaltModeLastsCounterCycles := by
  intro s d hm htimer henv hin
  have hsup := suppliesNormal_of_inputs henv hin
  constructor
  · intro k hk
    obtain ⟨t, ht⟩ := exists_haltWaited hm htimer hsup k hk
    exact ⟨t, ht.run, ht.mode, ht.count, ht.pc, ht.f, ht.a, ht.cy, ht.trun, ht.mem⟩
  · obtain ⟨t, ht⟩ := exists_haltWaited hm htimer hsup _ (Nat.le_refl _)
    have hzero : timerCount t = 0 := BitVec.eq_of_toNat_eq (ht.count.trans (Nat.sub_self _))
    exact ⟨t, ht.run, step_of_halt_released ht.mode htimer ht.supplies hzero⟩

/-! ### STOP mode (R344, R345) -/

section
variable {d : Nibble} {s : State}

theorem step_of_stop (hm : s.mode = .stop d) (hsup : (sample s).env.supply = .normal) :
    step s = stopCycle d (sample s) := by
  simp [step, cycle, hsup, modeCycle, hm]

theorem stopCycle_of_released (hrel : relCond d s = true) (hover : waitOver s = true) :
    stopCycle d s = .next (advanceFree (releaseStop s)) :=
  if_pos (Bool.and_eq_true_iff.2 ⟨hrel, hover⟩)

theorem stopCycle_of_waiting (h : relCond d s = false ∨ waitOver s = false) : stopCycle d s = .next (advanceFree s) :=
  if_neg (Bool.eq_false_iff.1 (Bool.and_eq_false_iff.2 h))

theorem waitOver_eq_false_iff : waitOver s = false ↔ s.env.oscStable = false ∧ s.inputs ≠ [] := by
  simp [waitOver]

/-- The release condition reads the environment and what no sample changes (R275). -/
theorem relCond_sample (d : Nibble) (s : State) :
    relCond d (sample s) = relCond d { s with env := (sample s).env } := by
  unfold sample
  split <;> rfl

end

/-- Every sample to come lets STOP mode be left: the supply is normal and the release condition holds (R345). -/
def releasesStop (d : Nibble) (s : State) : Prop :=
  ∀ e ∈ samplesToCome s, e.supply = .normal ∧ relCond d { s with env := e } = true

section
variable {d : Nibble} {s : State}

/-- A wait that is not over takes a sample away and leaves another to come. -/
theorem samplesToCome_of_not_waitOver (h : waitOver (sample s) = false) :
    samplesToCome s = (sample s).env :: samplesToCome (sample s) := by
  obtain ⟨-, hleft⟩ := waitOver_eq_false_iff.1 h
  cases hin : s.inputs with
  | nil => simp [sample_of_inputs_nil hin, hin] at hleft
  | cons e rest =>
    rw [sample_of_inputs_cons hin] at hleft ⊢
    simp [samplesToCome, hin, hleft]

theorem releasesStop_advanceFree_sample (h : releasesStop d s) : releasesStop d (advanceFree (sample s)) := by
  intro e he
  have hrel := h e (samplesToCome_sample_subset s he)
  unfold sample
  split <;> exact hrel

end

/-- A condition that stays true releases STOP mode by the last sample to come (R345, log 16). -/
theorem stop_released {d : Nibble} {n : Nat} {s : State} (hn : (samplesToCome s).length = n) (hm : s.mode = .stop d)
    (hrel : releasesStop d s) :
    ∃ k t, k ≤ n ∧ runsTo k s t ∧ t.mode = .run ∧ t.afterStop = true ∧ t.f = true ∧ t.pc = s.pc := by
  induction n generalizing s with
  | zero => exact absurd (List.length_pos_of_mem (env_sample_mem s)) (by omega)
  | succ n ih =>
    obtain ⟨hsup, hcond⟩ := hrel _ (env_sample_mem s)
    rw [← relCond_sample] at hcond
    have hstep := step_of_stop hm hsup
    cases hover : waitOver (sample s) with
    | true =>
      rw [stopCycle_of_released hcond hover] at hstep
      exact ⟨1, _, by omega, ⟨_, hstep, rfl⟩, rfl, rfl, rfl, sample_pc s⟩
    | false =>
      rw [stopCycle_of_waiting (.inr hover)] at hstep
      rw [samplesToCome_of_not_waitOver hover] at hn
      obtain ⟨k, t, hk, hrun, hmode, hafter, hf, hpc⟩ := ih (s := advanceFree (sample s)) (Nat.succ.inj hn)
        (by simpa using hm) (releasesStop_advanceFree_sample hrel)
      exact ⟨k + 1, t, by omega, ⟨_, hstep, hrun⟩, hmode, hafter, hf, hpc.trans (sample_pc s)⟩

/-- Settles O52: the step by the condition and the wait, then the release by the number of samples to come. -/
theorem stopModeSteps : Obligations.StopModeSteps := by
  refine fun s d hm => ⟨fun hsup => ⟨fun hrel hover => ?released, fun hwait => ?waiting⟩, stop_released rfl hm⟩
  case released =>
    rw [step_of_stop hm hsup, stopCycle_of_released hrel (waitOver_iff.2 hover), ← sample_free]
    rfl
  case waiting =>
    rw [step_of_stop hm hsup, stopCycle_of_waiting (hwait.imp_right waitOver_eq_false_iff.2), ← sample_free]
    rfl

end Sys2Proof.Machine
